-- ==== Sys2Proof/Word.lean ====
section
/-! DEFINITION. The word types of RDS-CORE: the number type of the analog half (00_scope.md R11, NUM
instantiated with exact rationals), complex samples, bytes, content words, blocks, signs and block labels. -/

namespace Sys2Proof

/-- A real quantity of stages 1 to 3 (R11). The number system NUM is instantiated with the exact rationals:
`+ - * /`, comparison and `floor` are exact. DESIGN CHOICE, notes/assumptions/1.md. -/
abbrev Scalar := Rat

/-- One 8-bit character code of a text buffer (20_memory.md R63). -/
abbrev Byte := BitVec 8

/-- A 16-bit content word (R93, `k[25:10]`). -/
abbrev Word16 := BitVec 16

/-- A 26-bit block, first-received bit in bit 25 (R93). -/
abbrev Block26 := BitVec 26

/-- Rendered text, outside the hardware (R258, R259). -/
abbrev Text := List Char

/-- A complex sample `re + j·im` (R11: complex numbers as pairs). -/
structure Cplx where
  re : Scalar
  im : Scalar
deriving DecidableEq, Repr, Inhabited

/-- The sign of the local bit clock, `{+1, -1}` (R23 `S.prev_lo`). -/
inductive Sign where
  | plus
  | minus
deriving DecidableEq, Repr, Inhabited

/-- The five offset labels A, B, C, D, C' (R94). -/
inductive Label where
  | A
  | B
  | C
  | D
  | Cp
deriving DecidableEq, Repr, Inhabited

end Sys2Proof
end

