-- ==== Sys2Proof/Config.lean ====
section
/-! DEFINITION. The configuration record CFG (00_scope.md R8, 10_state.md R31) as plain data, and the open
parameters of the spec (92_eei_decisions.md, "Open parameters") as opaque constants without a body. -/

namespace Sys2Proof

/-- A number system NUM (R8, R11): the positive value it uses for π, written `(piNum + 1) / (piDen + 1)`
so that every positive rational can be written and nothing else, and the number `prims` of its
`cos`, `sin` and `arg` among the open functions below. DESIGN CHOICE, notes/assumptions/2.md. -/
structure NumSys where
  piNum : Nat
  piDen : Nat
  prims : Nat
deriving DecidableEq, Repr, Inhabited

/-- A filter parameter (R12). `identity` and `delay` are the two concrete filters the spec's own examples use
(R132, R152, program P5); `host k` is the host's filter number `k`, of which nothing is known.
DESIGN CHOICE, notes/assumptions/3.md. -/
inductive FilterSel where
  | identity
  | delay
  | host (k : Nat)
deriving DecidableEq, Repr, Inhabited

/-- The configuration record (R8, R31). The derived fields DEC1, FS_MPX and DEC2 are computed
(`Cfg.dec1`, `Cfg.fsMpx`, `Cfg.dec2`). `ptyNames` holds the open entries 1 to 30 of PTY_NAME; entries 0 and 31
are fixed by the spec (R259). -/
structure Cfg where
  fsIn      : Scalar
  fOffset   : Scalar
  bw        : Scalar
  fmGain    : Scalar
  bpf1      : FilterSel
  lpfIq     : FilterSel
  lpfErr    : FilterSel
  pllBeta   : Scalar
  clkGain   : Scalar
  minLabels : Nat
  ptyNames  : Vector Text 30
  num       : NumSys
deriving DecidableEq, Repr, Inhabited

/-- The configuration the host presents at the first RESET: open (D3, D8, D9, D13, D27, U12, U13).
notes/assumptions/4.md. -/
opaque Config.hostCfg : Cfg

/-- `cos` of number system `k` at a reduced phase that is not a quarter turn: open (R11). notes/assumptions/2.md. -/
opaque Config.cosOf : Nat → Scalar → Scalar

/-- `sin` of number system `k` at a reduced phase that is not a quarter turn: open (R11). notes/assumptions/2.md. -/
opaque Config.sinOf : Nat → Scalar → Scalar

/-- An angle of a complex number that lies on neither axis, before it is brought into `(-π, π]`: open (R11).
notes/assumptions/2.md. -/
opaque Config.argOf : Nat → Cplx → Scalar

/-- `σ0` of the host's complex filter `k` (R12, BPF1): open. notes/assumptions/3.md. -/
opaque Config.cplxFilterInit : Nat → List Cplx

/-- `step` of the host's complex filter `k` (R12, BPF1): open. notes/assumptions/3.md. -/
opaque Config.cplxFilterStep : Nat → List Cplx → Cplx → List Cplx × Cplx

/-- `σ0` of the host's real filter `k` (R12, LPF_IQ and LPF_ERR): open. notes/assumptions/3.md. -/
opaque Config.realFilterInit : Nat → List Scalar

/-- `step` of the host's real filter `k` (R12, LPF_IQ and LPF_ERR): open. notes/assumptions/3.md. -/
opaque Config.realFilterStep : Nat → List Scalar → Scalar → List Scalar × Scalar

end Sys2Proof
end

