-- ==== Sys2Proof/Syntax.lean ====
section
/-! DEFINITION. The operation set of RDS-CORE (00_scope.md R6): one constructor of `Instr` for every row of
opcode_table.json, and `Input`, what one step consumes: a port event (30_encoding.md R91) or a word of one of the
two other selecting formats (R94, R96). -/

namespace Sys2Proof

/-- The selecting formats of the opcode table (R90); `internal` is the table's NONE. -/
inductive Format where
  | strobe
  | syn
  | wordB
  | internal
deriving DecidableEq, Repr, Inhabited

/-- What a reported group holds beside its block B: the candidate position and the content words of the other
blocks, each present or absent (R105, R240, R241). -/
structure GroupRest where
  pos : Nat
  a   : Option Word16
  c   : Option Word16
  d   : Option Word16
deriving DecidableEq, Repr, Inhabited

/-- One constructor for each row of opcode_table.json. -/
inductive Instr where
  -- STROBE: the port events (R91)
  | reset
  | sample (z : Cplx)
  | bit (b : Bool)
  | idle
  | strobeReserved
  -- SYN: the five syndrome codes (R94)
  | synA
  | synB
  | synC
  | synD
  | synCp
  -- WORD_B: the 32 values of (gt, ver) (R96, R104), each with the rest of its group
  | group0A (ta : Bool) (pty : BitVec 5) (unused : BitVec 3) (seg : BitVec 2) (g : GroupRest)
  | group0B (ta : Bool) (pty : BitVec 5) (tail : BitVec 5) (g : GroupRest)
  | group1A (ta : Bool) (pty : BitVec 5) (tail : BitVec 5) (g : GroupRest)
  | group1B (ta : Bool) (pty : BitVec 5) (tail : BitVec 5) (g : GroupRest)
  | group2A (ta : Bool) (pty : BitVec 5) (ab : Bool) (seg : BitVec 4) (g : GroupRest)
  | group2B (ta : Bool) (pty : BitVec 5) (tail : BitVec 5) (g : GroupRest)
  | group3A (ta : Bool) (pty : BitVec 5) (tail : BitVec 5) (g : GroupRest)
  | group3B (ta : Bool) (pty : BitVec 5) (tail : BitVec 5) (g : GroupRest)
  | group4A (ta : Bool) (pty : BitVec 5) (tail : BitVec 5) (g : GroupRest)
  | group4B (ta : Bool) (pty : BitVec 5) (tail : BitVec 5) (g : GroupRest)
  | group5A (ta : Bool) (pty : BitVec 5) (tail : BitVec 5) (g : GroupRest)
  | group5B (ta : Bool) (pty : BitVec 5) (tail : BitVec 5) (g : GroupRest)
  | group6A (ta : Bool) (pty : BitVec 5) (tail : BitVec 5) (g : GroupRest)
  | group6B (ta : Bool) (pty : BitVec 5) (tail : BitVec 5) (g : GroupRest)
  | group7A (ta : Bool) (pty : BitVec 5) (tail : BitVec 5) (g : GroupRest)
  | group7B (ta : Bool) (pty : BitVec 5) (tail : BitVec 5) (g : GroupRest)
  | group8A (ta : Bool) (pty : BitVec 5) (tail : BitVec 5) (g : GroupRest)
  | group8B (ta : Bool) (pty : BitVec 5) (tail : BitVec 5) (g : GroupRest)
  | group9A (ta : Bool) (pty : BitVec 5) (tail : BitVec 5) (g : GroupRest)
  | group9B (ta : Bool) (pty : BitVec 5) (tail : BitVec 5) (g : GroupRest)
  | group10A (ta : Bool) (pty : BitVec 5) (tail : BitVec 5) (g : GroupRest)
  | group10B (ta : Bool) (pty : BitVec 5) (tail : BitVec 5) (g : GroupRest)
  | group11A (ta : Bool) (pty : BitVec 5) (tail : BitVec 5) (g : GroupRest)
  | group11B (ta : Bool) (pty : BitVec 5) (tail : BitVec 5) (g : GroupRest)
  | group12A (ta : Bool) (pty : BitVec 5) (tail : BitVec 5) (g : GroupRest)
  | group12B (ta : Bool) (pty : BitVec 5) (tail : BitVec 5) (g : GroupRest)
  | group13A (ta : Bool) (pty : BitVec 5) (tail : BitVec 5) (g : GroupRest)
  | group13B (ta : Bool) (pty : BitVec 5) (tail : BitVec 5) (g : GroupRest)
  | group14A (ta : Bool) (pty : BitVec 5) (tail : BitVec 5) (g : GroupRest)
  | group14B (ta : Bool) (pty : BitVec 5) (tail : BitVec 5) (g : GroupRest)
  | group15A (ta : Bool) (pty : BitVec 5) (tail : BitVec 5) (g : GroupRest)
  | group15B (ta : Bool) (pty : BitVec 5) (tail : BitVec 5) (g : GroupRest)
  -- stage 1 (40_demodulator.md)
  | demodStep (z : Cplx)
  | demodFilt (z : Cplx)
  | demodMix (u : Cplx)
  | demodDecim
  | demodDisc (v : Cplx)
  -- stage 2 (41_carrier_pll.md)
  | pllStep (y : Scalar)
  | pllNco
  | pllMix (y : Scalar)
  | pllErr (iBb qBb : Scalar)
  | pllFeedback (e : Scalar)
  | pllSnap
  | pllTickcnt (iBb : Scalar)
  -- stage 3 (42_symbol_sync.md)
  | syncTick (bb : Scalar)
  | syncClock
  | syncAdj (bb cphi : Scalar)
  | syncInteg (bb : Scalar) (lo : Sign)
  | syncDump (lo : Sign)
  | syncHalfsym (a : Scalar)
  | syncFramesel
  -- stage 4 (43_differential.md)
  | diffStep (sym : Bool)
  -- stage 5 (44_block_sync.md)
  | syndrome (m mlen : Nat)
  | crc16 (d : Word16)
  | classify (k : Block26)
  | bsyncShift (b : Bool)
  | bsyncScan
  -- stage 6 (45_group_decoder.md)
  | grpDecode (pos : Nat) (presentA presentB presentC presentD : Bool)
  | grpDecA (w : Word16)
  | grpDecB (w : Word16)
  | grpDecCd (w : Word16)
  | piHex (valid : Bool) (pi : Word16)
  | ptyName (code : Option Nat)
deriving DecidableEq, Repr, Inhabited

/-- What one step consumes. `strobes` is a port event: the vector `rst s_valid b_valid` with its two operands
(R91). `synCode` and `wordB` present a word of the table's two other formats to the decoder on its own; the
ports carry neither (DESIGN CHOICE, notes/assumptions/5.md). -/
inductive Input where
  | strobes (v : BitVec 3) (z : Cplx) (b : Bool)
  | synCode (c : BitVec 10)
  | wordB (w : Word16) (g : GroupRest)
deriving DecidableEq, Repr, Inhabited

/-- The table's format of an instruction. -/
def Instr.format : Instr → Format
  | .reset | .sample _ | .bit _ | .idle | .strobeReserved => .strobe
  | .synA | .synB | .synC | .synD | .synCp => .syn
  | .group0A _ _ _ _ _ | .group0B _ _ _ _ | .group1A _ _ _ _ | .group1B _ _ _ _
  | .group2A _ _ _ _ _ | .group2B _ _ _ _ | .group3A _ _ _ _ | .group3B _ _ _ _
  | .group4A _ _ _ _ | .group4B _ _ _ _ | .group5A _ _ _ _ | .group5B _ _ _ _
  | .group6A _ _ _ _ | .group6B _ _ _ _ | .group7A _ _ _ _ | .group7B _ _ _ _
  | .group8A _ _ _ _ | .group8B _ _ _ _ | .group9A _ _ _ _ | .group9B _ _ _ _
  | .group10A _ _ _ _ | .group10B _ _ _ _ | .group11A _ _ _ _ | .group11B _ _ _ _
  | .group12A _ _ _ _ | .group12B _ _ _ _ | .group13A _ _ _ _ | .group13B _ _ _ _
  | .group14A _ _ _ _ | .group14B _ _ _ _ | .group15A _ _ _ _ | .group15B _ _ _ _ => .wordB
  | .demodStep _ | .demodFilt _ | .demodMix _ | .demodDecim | .demodDisc _
  | .pllStep _ | .pllNco | .pllMix _ | .pllErr _ _ | .pllFeedback _ | .pllSnap | .pllTickcnt _
  | .syncTick _ | .syncClock | .syncAdj _ _ | .syncInteg _ _ | .syncDump _ | .syncHalfsym _ | .syncFramesel
  | .diffStep _ | .syndrome _ _ | .crc16 _ | .classify _ | .bsyncShift _ | .bsyncScan
  | .grpDecode _ _ _ _ _ | .grpDecA _ | .grpDecB _ | .grpDecCd _ | .piHex _ _ | .ptyName _ => .internal

/-- The format of an input word. -/
def Input.format : Input → Format
  | .strobes _ _ _ => .strobe
  | .synCode _ => .syn
  | .wordB _ _ => .wordB

/-- The thirty WORD_B instructions other than 0A and 2A (R252), with the same fields. -/
def Instr.otherGroups (ta : Bool) (pty tail : BitVec 5) (g : GroupRest) : List Instr :=
  [.group0B ta pty tail g, .group1A ta pty tail g, .group1B ta pty tail g, .group2B ta pty tail g, .group3A ta pty tail g,
   .group3B ta pty tail g, .group4A ta pty tail g, .group4B ta pty tail g, .group5A ta pty tail g, .group5B ta pty tail g,
   .group6A ta pty tail g, .group6B ta pty tail g, .group7A ta pty tail g, .group7B ta pty tail g, .group8A ta pty tail g,
   .group8B ta pty tail g, .group9A ta pty tail g, .group9B ta pty tail g, .group10A ta pty tail g, .group10B ta pty tail g,
   .group11A ta pty tail g, .group11B ta pty tail g, .group12A ta pty tail g, .group12B ta pty tail g, .group13A ta pty tail g,
   .group13B ta pty tail g, .group14A ta pty tail g, .group14B ta pty tail g, .group15A ta pty tail g, .group15B ta pty tail g]

end Sys2Proof
end

