-- ==== Sys2Proof/WellFormed.lean ====
section
/-! DEFINITION. Well-formedness of an instruction as syntax: every field but one has exactly the values its type
allows, so the one check is the window of SYNDROME, which is an `mlen`-bit vector (44_block_sync.md R211). -/

namespace Sys2Proof

/-- The operands of an instruction are within their widths. `mlen` itself is not checked here: a length other
than 16 or 26 is an instruction with a defined error (R217, R301). -/
def Instr.wf : Instr → Bool
  | .syndrome m mlen => decide (m < 2 ^ mlen)
  | .reset | .sample _ | .bit _ | .idle | .strobeReserved => true
  | .synA | .synB | .synC | .synD | .synCp => true
  | .group0A _ _ _ _ _ | .group0B _ _ _ _ | .group1A _ _ _ _ | .group1B _ _ _ _
  | .group2A _ _ _ _ _ | .group2B _ _ _ _ | .group3A _ _ _ _ | .group3B _ _ _ _
  | .group4A _ _ _ _ | .group4B _ _ _ _ | .group5A _ _ _ _ | .group5B _ _ _ _
  | .group6A _ _ _ _ | .group6B _ _ _ _ | .group7A _ _ _ _ | .group7B _ _ _ _
  | .group8A _ _ _ _ | .group8B _ _ _ _ | .group9A _ _ _ _ | .group9B _ _ _ _
  | .group10A _ _ _ _ | .group10B _ _ _ _ | .group11A _ _ _ _ | .group11B _ _ _ _
  | .group12A _ _ _ _ | .group12B _ _ _ _ | .group13A _ _ _ _ | .group13B _ _ _ _
  | .group14A _ _ _ _ | .group14B _ _ _ _ | .group15A _ _ _ _ | .group15B _ _ _ _ => true
  | .demodStep _ | .demodFilt _ | .demodMix _ | .demodDecim | .demodDisc _
  | .pllStep _ | .pllNco | .pllMix _ | .pllErr _ _ | .pllFeedback _ | .pllSnap | .pllTickcnt _
  | .syncTick _ | .syncClock | .syncAdj _ _ | .syncInteg _ _ | .syncDump _ | .syncHalfsym _ | .syncFramesel
  | .diffStep _ | .crc16 _ | .classify _ | .bsyncShift _ | .bsyncScan
  | .grpDecode _ _ _ _ _ | .grpDecA _ | .grpDecB _ | .grpDecCd _ | .piHex _ _ | .ptyName _ => true

end Sys2Proof
end

