-- ==== Sys2Proof/Decode.lean ====
section
/-! DEFINITION. The decoder of the three selecting formats (30_encoding.md R91, R94, R96, R104), total and
refusing by name, and after it the encoder, written from the same tables. -/

namespace Sys2Proof

/-- Why a word decodes to no instruction. -/
inductive DecodeError where
  /-- A 10-bit value that is none of the five syndrome codes (R94, R107: label none, a SyncMiss). -/
  | notASyndromeCode
deriving DecidableEq, Repr, Inhabited

/-- The strobe vector `rst s_valid b_valid` (R91): `1xx`, `010`, `001`, `000` and the reserved `011`. -/
def decodeStrobe (v : BitVec 3) (z : Cplx) (b : Bool) : Instr :=
  if v.getLsbD 2 then .reset
  else match v.getLsbD 1, v.getLsbD 0 with
    | true, false => .sample z
    | false, true => .bit b
    | false, false => .idle
    | true, true => .strobeReserved

/-- The label of a 10-bit syndrome (R94, R215): 383 is A, 14 is B, 303 is C, 663 is D, 748 is C'. -/
def labelOfSyndrome (c : BitVec 10) : Option Label :=
  if c = 383#10 then some .A
  else if c = 14#10 then some .B
  else if c = 303#10 then some .C
  else if c = 663#10 then some .D
  else if c = 748#10 then some .Cp
  else none

/-- The SYN row of a label. -/
def synOfLabel : Label → Instr
  | .A => .synA
  | .B => .synB
  | .C => .synC
  | .D => .synD
  | .Cp => .synCp

def decodeSyn (c : BitVec 10) : Except DecodeError Instr :=
  match labelOfSyndrome c with
  | some l => .ok (synOfLabel l)
  | none => .error .notASyndromeCode

/-- `w[15:12]` of a block-B word: the group type (R96). -/
def wordGt (w : Word16) : BitVec 4 := w.extractLsb' 12 4

/-- `w[11]`: the version, 0 is A and 1 is B (R96, R103). PRESUMED by the spec (G2), notes/assumptions/12.md. -/
def wordVer (w : Word16) : Bool := w.getLsbD 11

/-- `w[15:11]`: the selecting bits of the group dispatch, mask 0xF800 (R104). -/
def wordSel (w : Word16) : BitVec 5 := w.extractLsb' 11 5

/-- `w[10]`: the traffic-announcement flag, stored nowhere (R96, R47). -/
def wordTa (w : Word16) : Bool := w.getLsbD 10

/-- `w[9:5]`: the program-type code (R96). -/
def wordPty (w : Word16) : BitVec 5 := w.extractLsb' 5 5

/-- `w[4:0]`: the group-type-specific tail (R96). -/
def wordTail (w : Word16) : BitVec 5 := w.extractLsb' 0 5

/-- `w[4:2]`: not used in group 0A (R97). -/
def wordUnused0A (w : Word16) : BitVec 3 := w.extractLsb' 2 3

/-- `w[1:0]`: the name segment of group 0A (R97). -/
def wordSeg0A (w : Word16) : BitVec 2 := w.extractLsb' 0 2

/-- `w[4]`: the clear flag of group 2A (R98). -/
def wordAb (w : Word16) : Bool := w.getLsbD 4

/-- `w[3:0]`: the radio-text segment of group 2A (R98). -/
def wordSeg2A (w : Word16) : BitVec 4 := w.extractLsb' 0 4

/-- The block-B word (R96, R104): one instruction for each value of `w[15:11]`. -/
def decodeWordB (w : Word16) (g : GroupRest) : Instr :=
  let ta := wordTa w
  let pty := wordPty w
  let tail := wordTail w
  match (wordSel w).toNat with
  | 0 => .group0A ta pty (wordUnused0A w) (wordSeg0A w) g
  | 1 => .group0B ta pty tail g
  | 2 => .group1A ta pty tail g
  | 3 => .group1B ta pty tail g
  | 4 => .group2A ta pty (wordAb w) (wordSeg2A w) g
  | 5 => .group2B ta pty tail g
  | 6 => .group3A ta pty tail g
  | 7 => .group3B ta pty tail g
  | 8 => .group4A ta pty tail g
  | 9 => .group4B ta pty tail g
  | 10 => .group5A ta pty tail g
  | 11 => .group5B ta pty tail g
  | 12 => .group6A ta pty tail g
  | 13 => .group6B ta pty tail g
  | 14 => .group7A ta pty tail g
  | 15 => .group7B ta pty tail g
  | 16 => .group8A ta pty tail g
  | 17 => .group8B ta pty tail g
  | 18 => .group9A ta pty tail g
  | 19 => .group9B ta pty tail g
  | 20 => .group10A ta pty tail g
  | 21 => .group10B ta pty tail g
  | 22 => .group11A ta pty tail g
  | 23 => .group11B ta pty tail g
  | 24 => .group12A ta pty tail g
  | 25 => .group12B ta pty tail g
  | 26 => .group13A ta pty tail g
  | 27 => .group13B ta pty tail g
  | 28 => .group14A ta pty tail g
  | 29 => .group14B ta pty tail g
  | 30 => .group15A ta pty tail g
  | _ => .group15B ta pty tail g

/-- The decoder: total on every input word. -/
def decode : Input → Except DecodeError Instr
  | .strobes v z b => .ok (decodeStrobe v z b)
  | .synCode c => decodeSyn c
  | .wordB w g => .ok (decodeWordB w g)

/-! ## The encoder -/

/-- The block-B word with selecting bits `sel` (R96, R104). -/
def encodeWordB (sel : BitVec 5) (ta : Bool) (pty tail : BitVec 5) : Word16 :=
  sel ++ BitVec.ofBool ta ++ pty ++ tail

/-- The syndrome code of a label (R94). -/
def syndromeOfLabel : Label → BitVec 10
  | .A => 383#10
  | .B => 14#10
  | .C => 303#10
  | .D => 663#10
  | .Cp => 748#10

/-- The word of an instruction; an internal operation has none (opcode_table.json, format NONE). RESET is
encoded with its two ignored strobes 0 (R91). -/
def encode : Instr → Option Input
  | .reset => some (.strobes 0b100#3 default false)
  | .sample z => some (.strobes 0b010#3 z false)
  | .bit b => some (.strobes 0b001#3 default b)
  | .idle => some (.strobes 0b000#3 default false)
  | .strobeReserved => some (.strobes 0b011#3 default false)
  | .synA => some (.synCode (syndromeOfLabel .A))
  | .synB => some (.synCode (syndromeOfLabel .B))
  | .synC => some (.synCode (syndromeOfLabel .C))
  | .synD => some (.synCode (syndromeOfLabel .D))
  | .synCp => some (.synCode (syndromeOfLabel .Cp))
  | .group0A ta pty unused seg g => some (.wordB (encodeWordB 0#5 ta pty (unused ++ seg)) g)
  | .group0B ta pty tail g => some (.wordB (encodeWordB 1#5 ta pty tail) g)
  | .group1A ta pty tail g => some (.wordB (encodeWordB 2#5 ta pty tail) g)
  | .group1B ta pty tail g => some (.wordB (encodeWordB 3#5 ta pty tail) g)
  | .group2A ta pty ab seg g => some (.wordB (encodeWordB 4#5 ta pty (BitVec.ofBool ab ++ seg)) g)
  | .group2B ta pty tail g => some (.wordB (encodeWordB 5#5 ta pty tail) g)
  | .group3A ta pty tail g => some (.wordB (encodeWordB 6#5 ta pty tail) g)
  | .group3B ta pty tail g => some (.wordB (encodeWordB 7#5 ta pty tail) g)
  | .group4A ta pty tail g => some (.wordB (encodeWordB 8#5 ta pty tail) g)
  | .group4B ta pty tail g => some (.wordB (encodeWordB 9#5 ta pty tail) g)
  | .group5A ta pty tail g => some (.wordB (encodeWordB 10#5 ta pty tail) g)
  | .group5B ta pty tail g => some (.wordB (encodeWordB 11#5 ta pty tail) g)
  | .group6A ta pty tail g => some (.wordB (encodeWordB 12#5 ta pty tail) g)
  | .group6B ta pty tail g => some (.wordB (encodeWordB 13#5 ta pty tail) g)
  | .group7A ta pty tail g => some (.wordB (encodeWordB 14#5 ta pty tail) g)
  | .group7B ta pty tail g => some (.wordB (encodeWordB 15#5 ta pty tail) g)
  | .group8A ta pty tail g => some (.wordB (encodeWordB 16#5 ta pty tail) g)
  | .group8B ta pty tail g => some (.wordB (encodeWordB 17#5 ta pty tail) g)
  | .group9A ta pty tail g => some (.wordB (encodeWordB 18#5 ta pty tail) g)
  | .group9B ta pty tail g => some (.wordB (encodeWordB 19#5 ta pty tail) g)
  | .group10A ta pty tail g => some (.wordB (encodeWordB 20#5 ta pty tail) g)
  | .group10B ta pty tail g => some (.wordB (encodeWordB 21#5 ta pty tail) g)
  | .group11A ta pty tail g => some (.wordB (encodeWordB 22#5 ta pty tail) g)
  | .group11B ta pty tail g => some (.wordB (encodeWordB 23#5 ta pty tail) g)
  | .group12A ta pty tail g => some (.wordB (encodeWordB 24#5 ta pty tail) g)
  | .group12B ta pty tail g => some (.wordB (encodeWordB 25#5 ta pty tail) g)
  | .group13A ta pty tail g => some (.wordB (encodeWordB 26#5 ta pty tail) g)
  | .group13B ta pty tail g => some (.wordB (encodeWordB 27#5 ta pty tail) g)
  | .group14A ta pty tail g => some (.wordB (encodeWordB 28#5 ta pty tail) g)
  | .group14B ta pty tail g => some (.wordB (encodeWordB 29#5 ta pty tail) g)
  | .group15A ta pty tail g => some (.wordB (encodeWordB 30#5 ta pty tail) g)
  | .group15B ta pty tail g => some (.wordB (encodeWordB 31#5 ta pty tail) g)
  | .demodStep _ | .demodFilt _ | .demodMix _ | .demodDecim | .demodDisc _
  | .pllStep _ | .pllNco | .pllMix _ | .pllErr _ _ | .pllFeedback _ | .pllSnap | .pllTickcnt _
  | .syncTick _ | .syncClock | .syncAdj _ _ | .syncInteg _ _ | .syncDump _ | .syncHalfsym _ | .syncFramesel
  | .diffStep _ | .syndrome _ _ | .crc16 _ | .classify _ | .bsyncShift _ | .bsyncScan
  | .grpDecode _ _ _ _ _ | .grpDecA _ | .grpDecB _ | .grpDecCd _ | .piHex _ _ | .ptyName _ => none

/-! ## The host's numbering of table words -/

/-- The input word that the opcode table's bits `w` of width `nbits` stand for (notes/assumptions/6.md). A width
up to 2 is the table's format NONE. Widths 3 to 8 are STROBE (3 bits in one byte). Widths 9 to 16 are SYN
(10 bits) where the value is a syndrome code, and otherwise, at 16 bits, WORD_B. Operands are zero or absent. -/
def tableInput (nbits w : Nat) : Option Input :=
  if nbits < 3 then none
  else if nbits ≤ 8 then
    if w < 8 then some (.strobes (BitVec.ofNat 3 w) default false) else none
  else if nbits ≤ 16 then
    if w < 1024 && (labelOfSyndrome (BitVec.ofNat 10 w)).isSome then some (.synCode (BitVec.ofNat 10 w))
    else if nbits = 16 && w < 65536 then some (.wordB (BitVec.ofNat 16 w) default)
    else none
  else none

/-- The instruction the decoder reads from the table's bits `w` of width `nbits`. -/
def decodeTableWord (nbits w : Nat) : Option Instr :=
  match tableInput nbits w with
  | some x => (decode x).toOption
  | none => none

end Sys2Proof
end

