-- ==== Sys2Proof/Machine/Params.lean ====
section
/-! DEFINITION. What is derived from the configuration record: the two decimation factors and the intermediate
rate (00_scope.md R8), legality (R9), the reset memories of the filters (R12), and the configuration the machine is
reset with. -/

namespace Sys2Proof

/-- `CFG.DEC1 = floor(FS_IN / BW)` (R8, R340 step 2); 0 where that is not positive. -/
def Cfg.dec1 (c : Cfg) : Nat := (c.fsIn / c.bw).floor.toNat

/-- `CFG.FS_MPX = FS_IN / DEC1` (R8, R340 step 2). -/
def Cfg.fsMpx (c : Cfg) : Scalar := c.fsIn / (c.dec1 : Scalar)

/-- `CFG.DEC2 = floor(FS_MPX / 7125)` (R8, R157); 0 where that is not positive. -/
def Cfg.dec2 (c : Cfg) : Nat := (c.fsMpx / 7125).floor.toNat

/-- Legality of a configuration (R9; 93_implementation_defined.md U2): `DEC1 ≥ 1`, `DEC2 ≥ 1` and
`1 ≤ MIN_LABELS ≤ 4`. -/
abbrev Cfg.legal (c : Cfg) : Prop :=
  1 ≤ c.dec1 ∧ 1 ≤ c.dec2 ∧ 1 ≤ c.minLabels ∧ c.minLabels ≤ 4

/-- `BPF1.σ0` (R12): the identity filter has no memory, the one-sample delay holds 0. -/
def FilterSel.cplxInit : FilterSel → List Cplx
  | .identity => []
  | .delay => [⟨0, 0⟩]
  | .host k => Config.cplxFilterInit k

/-- `σ0` of a real filter, LPF_IQ or LPF_ERR (R12). -/
def FilterSel.realInit : FilterSel → List Scalar
  | .identity => []
  | .delay => [0]
  | .host k => Config.realFilterInit k

/-- The host's two rates if they are legal, else those of the spec's program P5, so that the machine is reset
with a legal configuration whatever the host's is (R287, R340). notes/assumptions/4.md. -/
def Config.rates : Scalar × Scalar :=
  if 1 ≤ Config.hostCfg.dec1 ∧ 1 ≤ Config.hostCfg.dec2 then (Config.hostCfg.fsIn, Config.hostCfg.bw)
  else (228000, 228000)

/-- The configuration of `State.reset`: open in every field but `MIN_LABELS`, whose reset value is 2 (R31), and
legal. notes/assumptions/4.md. -/
def Config.cfg : Cfg :=
  { fsIn := Config.rates.1
    fOffset := Config.hostCfg.fOffset
    bw := Config.rates.2
    fmGain := Config.hostCfg.fmGain
    bpf1 := Config.hostCfg.bpf1
    lpfIq := Config.hostCfg.lpfIq
    lpfErr := Config.hostCfg.lpfErr
    pllBeta := Config.hostCfg.pllBeta
    clkGain := Config.hostCfg.clkGain
    minLabels := 2
    ptyNames := Config.hostCfg.ptyNames
    num := Config.hostCfg.num }

end Sys2Proof
end

