-- ==== Sys2Proof/Machine/Arith.lean ====
section
/-! DEFINITION. The primitives of the analog half (00_scope.md R11, R12): `fmodp`, `sgn`, complex arithmetic,
π, `cos`, `sin` and `arg` of a number system, and the filters' step functions. -/

namespace Sys2Proof

/-- `fmodp(x, m)`: for `m > 0` the one `r` in `[0, m)` with `x - r` an integer multiple of `m` (R11). -/
def fmodp (x m : Scalar) : Scalar := x - m * ((x / m).floor : Scalar)

/-- `sgn(x) = +1 if x ≥ 0 else -1` (R11), so `sgn(0) = +1`. -/
def sgn (x : Scalar) : Sign := if 0 ≤ x then .plus else .minus

/-- The sign as a factor. -/
def Sign.toScalar : Sign → Scalar
  | .plus => 1
  | .minus => -1

def Cplx.mul (a b : Cplx) : Cplx := ⟨a.re * b.re - a.im * b.im, a.re * b.im + a.im * b.re⟩

def Cplx.conj (a : Cplx) : Cplx := ⟨a.re, -a.im⟩

/-- The value the number system uses for π: positive. -/
def NumSys.pi (n : NumSys) : Scalar := ((n.piNum : Scalar) + 1) / ((n.piDen : Scalar) + 1)

/-- `cos` (R11): `2π`-periodic, with its exact value at the quarter turns; open elsewhere. notes/assumptions/2.md. -/
def NumSys.cos (n : NumSys) (x : Scalar) : Scalar :=
  let r := fmodp x (2 * n.pi)
  if r = 0 then 1
  else if r = n.pi / 2 then 0
  else if r = n.pi then -1
  else if r = 3 * n.pi / 2 then 0
  else Config.cosOf n.prims r

/-- `sin` (R11): `2π`-periodic, with its exact value at the quarter turns; open elsewhere. notes/assumptions/2.md. -/
def NumSys.sin (n : NumSys) (x : Scalar) : Scalar :=
  let r := fmodp x (2 * n.pi)
  if r = 0 then 0
  else if r = n.pi / 2 then 1
  else if r = n.pi then 0
  else if r = 3 * n.pi / 2 then -1
  else Config.sinOf n.prims r

/-- `arg(z)`, the principal argument in `(-π, π]` with `arg(0) = 0` (R11): exact on the two axes; elsewhere an open
angle brought into `(-π, π]`. notes/assumptions/2.md. -/
def NumSys.arg (n : NumSys) (z : Cplx) : Scalar :=
  if z.im = 0 then (if 0 ≤ z.re then 0 else n.pi)
  else if z.re = 0 then (if 0 < z.im then n.pi / 2 else -(n.pi / 2))
  else n.pi - fmodp (n.pi - Config.argOf n.prims z) (2 * n.pi)

/-- `F.step(σ, x)` of a complex filter (R12). -/
def FilterSel.cplxStep : FilterSel → List Cplx → Cplx → List Cplx × Cplx
  | .identity, σ, x => (σ, x)
  | .delay, σ, x => ([x], σ.headD ⟨0, 0⟩)
  | .host k, σ, x => Config.cplxFilterStep k σ x

/-- `F.step(σ, x)` of a real filter (R12). -/
def FilterSel.realStep : FilterSel → List Scalar → Scalar → List Scalar × Scalar
  | .identity, σ, x => (σ, x)
  | .delay, σ, x => ([x], σ.headD 0)
  | .host k, σ, x => Config.realFilterStep k σ x

end Sys2Proof
end

