-- ==== Sys2Proof/Machine/State.lean ====
section
/-! DEFINITION. The architectural state of RDS-CORE as plain data (10_state.md R21 to R27), one record a stage, the
output events (46_port_events.md R286), the model's own fields, the reset state (R340), and the reasons a step
can stop. -/

namespace Sys2Proof.Machine

/-- Stage 1 (R21). `bpf1` is the memory of filter BPF1. -/
structure Demod where
  bpf1   : List Cplx
  theta1 : Scalar
  n1     : Nat
  vPrev  : Cplx
deriving DecidableEq, Repr, Inhabited

/-- Stage 2 (R22). `lpfI`, `lpfQ` are the memories of the two instances of LPF_IQ, `lpfErr` of LPF_ERR. -/
structure Pll where
  phi    : Scalar
  fEst   : Scalar
  lpfI   : List Scalar
  lpfQ   : List Scalar
  lpfErr : List Scalar
deriving DecidableEq, Repr, Inhabited

/-- Stage 3 (R23). `err0`, `err1` are `S.err[0]`, `S.err[1]`; `frame` is the reading frame, false for 0. -/
structure Sync where
  n2      : Nat
  clkOff  : Scalar
  prevBb  : Scalar
  prevLo  : Sign
  acc     : Scalar
  prevAcc : Scalar
  err0    : Nat
  err1    : Nat
  frame   : Bool
  hsCnt   : Nat
deriving DecidableEq, Repr, Inhabited

/-- Stage 4 (R24). -/
structure Diff where
  dPrev  : Bool
  dValid : Bool
deriving DecidableEq, Repr, Inhabited

/-- Stage 5 (R25). `win` bit 103 is the oldest of the last 104 logical bits, bit 0 the newest. -/
structure Bsync where
  win   : BitVec 104
  nbits : Nat
deriving DecidableEq, Repr, Inhabited

/-- Stage 6, the station state (R26); its tuple of fields is also the snapshot of a group event (R32, R257). -/
structure Station where
  pi       : Word16
  piValid  : Bool
  pty      : BitVec 5
  ptyValid : Bool
  name     : Vector Byte 8
  rt       : Vector Byte 64
deriving DecidableEq, Repr, Inhabited

/-- The sticky fault flags (R27). -/
structure Flags where
  fltConfig : Bool
  fltProto  : Bool
  refused   : Bool
deriving DecidableEq, Repr, Inhabited

/-- A candidate-group mapping (R105): the position and the four presence bits. -/
structure GMap where
  pos      : Nat
  presentA : Bool
  presentB : Bool
  presentC : Bool
  presentD : Bool
deriving DecidableEq, Repr, Inhabited

/-- An output event (R286): a raw symbol, a logical bit of the bit tap, or a processed group with its snapshot
(R106). -/
inductive OutEvent where
  | sym (s : Bool)
  | bit (b : Bool)
  | group (map : GMap) (snapshot : Station)
deriving DecidableEq, Repr, Inhabited

/-- The causes of 60_exceptions.md R300. -/
inductive Cause where
  | configurationError
  | protocolError
  | syncMiss
  | resourceError
  | refused
deriving DecidableEq, Repr, Inhabited

/-- The value an internal operation hands on when it is run on its own: the values of R47, which live only
inside one port event, and the results of the pure functions (R211, R213, R215, R245, R258, R259). The model's own
field, notes/assumptions/7.md. -/
inductive Result where
  | none
  | cplx (z : Cplx)
  | real (x : Scalar)
  | keep (b : Bool)
  | arms (iBb qBb : Scalar)
  | clock (cphi : Scalar) (lo : Sign)
  | syndrome (c : BitVec 10)
  | label (l : Option Label)
  | wordB (gt : BitVec 4) (ver ta : Bool) (pty tail : BitVec 5)
  | chars (c0 c1 : Byte)
  | text (t : Text)
  | error (c : Cause)
deriving DecidableEq, Repr, Inhabited

/-- The state. The fields `demod` to `flags` are the elements of R21 to R27. The others are the model's own:
`cfg` is the configuration sampled at the last RESET (R45), `cfgIn` the one the config port shows, `cfgOk` whether
the last sampled one was legal (R287), `inputs` the events the host has still to present, first one first, `out` the
output events of the current port event in the order produced (R286), `result` see `Result`. -/
structure State where
  demod   : Demod
  pll     : Pll
  sync    : Sync
  diff    : Diff
  bsync   : Bsync
  station : Station
  flags   : Flags
  cfg     : Cfg
  cfgIn   : Cfg
  cfgOk   : Bool
  inputs  : List Input
  out     : List OutEvent
  result  : Result
deriving DecidableEq, Repr, Inhabited

/-- The machine never stops with a fault: every error the spec names sets a sticky flag and leaves a next state
(R309), so there is no constructor. Nobody raises one, which is safe. -/
inductive Fault where
deriving DecidableEq, Repr

/-- Why an instruction gets no next state. -/
inductive Refusal where
  /-- Raised by exec for an instruction without a meaning yet; safe. No arm raises it. -/
  | notModelled (mnemonic : String)
  /-- Raised by BSYNC.SCAN and GRP.DECODE, run on their own, when they would read a bit of the stream that the
  window does not hold (20_memory.md R64: a model may treat such a call as a refusal); safe. No port event raises
  it. -/
  | streamOutOfRange
deriving DecidableEq, Repr

/-- The placeholder fill character `'_'` (R7). -/
def fill : Byte := 0x5F#8

/-- The reset state `S0(CFG)`: every element at the value of the reset column of R21 to R27 (R340 step 3). -/
def State.s0 (c : Cfg) : State :=
  { demod := { bpf1 := c.bpf1.cplxInit, theta1 := 0, n1 := 0, vPrev := ⟨0, 0⟩ }
    pll := { phi := 0, fEst := 57000, lpfI := c.lpfIq.realInit, lpfQ := c.lpfIq.realInit, lpfErr := c.lpfErr.realInit }
    sync :=
      { n2 := 0, clkOff := 0, prevBb := 0, prevLo := .plus, acc := 0, prevAcc := 0, err0 := 0, err1 := 0,
        frame := false, hsCnt := 0 }
    diff := { dPrev := false, dValid := false }
    bsync := { win := 0#104, nbits := 0 }
    station :=
      { pi := 0x0000#16, piValid := false, pty := 0#5, ptyValid := false, name := Vector.replicate 8 fill,
        rt := Vector.replicate 64 fill }
    flags := { fltConfig := false, fltProto := false, refused := false }
    cfg := c
    cfgIn := c
    cfgOk := true
    inputs := []
    out := []
    result := .none }

/-- The machine right after a RESET with the host's configuration. -/
def State.reset : State := State.s0 Config.cfg

end Sys2Proof.Machine
end

