-- ==== Sys2Proof/Machine/Ops.lean ====
section
/-! DEFINITION. The shared operations over the state: recording an error (60_exceptions.md), emitting an output
event (46_port_events.md R286), reading the bit stream and writing a text buffer (20_memory.md R64, R68), and the
gate in front of every port event (R301, R305). -/

namespace Sys2Proof.Machine

/-- The numeric code of a cause (R300). -/
def Cause.code : Cause → Nat
  | .configurationError => 1
  | .protocolError => 2
  | .syncMiss => 3
  | .resourceError => 4
  | .refused => 5

/-- `raise`: an error saves no context, changes no mode and transfers control nowhere; it sets its sticky flag
(R300, R309). A SyncMiss and a ResourceError record nothing (R303, R304). -/
def raise (c : Cause) (s : State) : State :=
  match c with
  | .configurationError => { s with flags := { s.flags with fltConfig := true } }
  | .protocolError => { s with flags := { s.flags with fltProto := true } }
  | .refused => { s with flags := { s.flags with refused := true } }
  | .syncMiss => s
  | .resourceError => s

/-- `emit` (R13, R286): appends to the output events of the current port event. -/
def emit (e : OutEvent) (s : State) : State := { s with out := s.out ++ [e] }

/-- The value an internal operation run on its own hands on (R47). notes/assumptions/7.md. -/
def State.withResult (s : State) (r : Result) : State := { s with result := r }

/-- `StreamRead(off, n)` (R64): defined for `n` 16 or 26 and bits that the window still holds. -/
def streamRead (b : Bsync) (off n : Nat) : Option (BitVec n) :=
  if (n = 16 ∨ n = 26) ∧ off + n ≤ b.nbits ∧ b.nbits ≤ off + 104 then
    some (b.win.extractLsb' (b.nbits - off - n) n)
  else none

/-- `BufWrite(name, idx, c)` (R68). -/
def bufWriteName (idx : Nat) (c : Byte) (st : Station) : Station :=
  { st with name := st.name.setIfInBounds idx c }

/-- `BufWrite(rt, idx, c)` (R68). -/
def bufWriteRt (idx : Nat) (c : Byte) (st : Station) : Station :=
  { st with rt := st.rt.setIfInBounds idx c }

/-- The clear of the radio text: 64 writes of FILL as one step (R68, R250). -/
def clearRt (st : Station) : Station := { st with rt := Vector.replicate 64 fill }

/-- What every port event but RESET goes through. After a RESET with an illegal configuration every event is
refused (R287, R305); after a ConfigurationError every event is ignored (R301). -/
def portEvent (f : State → State) (s : State) : State :=
  if s.cfgOk = false then raise .refused s
  else if s.flags.fltConfig = true then s
  else f s

/-- The RESET port event (R287, R340): samples the config port; an illegal configuration is refused and nothing
else happens (notes/assumptions/8.md); a legal one puts every element to its reset value. -/
def resetEvent (s : State) : State :=
  if s.cfgIn.legal then { State.s0 s.cfgIn with inputs := s.inputs, out := s.out, result := s.result }
  else { raise .refused s with cfgOk := false }

/-- A port event waits at the head of the host's input list. -/
def State.present (s : State) (x : Input) : State := { s with inputs := x :: s.inputs }

end Sys2Proof.Machine
end

