-- ==== Sys2Proof/Machine/Operands.lean ====
section
/-! DEFINITION. The operand forms of the digital half: the four windows of a candidate (44_block_sync.md R219), the
content words (45_group_decoder.md R241), the two characters of a word (30_encoding.md R100), the offsets of a
candidate mapping (R105), and the bits of a window in stream order (20_memory.md R62). -/

namespace Sys2Proof.Machine

/-- The low `len` bits of `m`, bit `len - 1` first: stream order (R62). -/
def streamBits (m len : Nat) : List Bool := (List.range len).reverse.map m.testBit

/-- `val(b0 b1 …)`: the first bit is the most significant (R10, R62). -/
def bitsVal (bs : List Bool) : Nat := bs.foldl (fun v b => 2 * v + b.toNat) 0

/-- `S.win[103:78]`, the window at the candidate position (R219). -/
def blockA (w : BitVec 104) : Block26 := w.extractLsb' 78 26
/-- `S.win[77:52]` (R219). -/
def blockB (w : BitVec 104) : Block26 := w.extractLsb' 52 26
/-- `S.win[51:26]` (R219). -/
def blockC (w : BitVec 104) : Block26 := w.extractLsb' 26 26
/-- `S.win[25:0]` (R219). -/
def blockD (w : BitVec 104) : Block26 := w.extractLsb' 0 26

/-- `k[25:10]`, the content word of a block (R93). -/
def blockData (k : Block26) : Word16 := k.extractLsb' 10 16

/-- `k[9:0]`, the check word of a block (R93). -/
def blockCheck (k : Block26) : BitVec 10 := k.extractLsb' 0 10

/-- `w[15:8]`, the first character of a C or D word (R63, R100). -/
def charHi (w : Word16) : Byte := w.extractLsb' 8 8

/-- `w[7:0]`, the second character of a C or D word (R63, R100). -/
def charLo (w : Word16) : Byte := w.extractLsb' 0 8

/-- The content words of a group, an absent letter has none (R241). -/
structure GroupWords where
  a : Option Word16
  b : Option Word16
  c : Option Word16
  d : Option Word16
deriving DecidableEq, Repr, Inhabited

/-- The rest of a group and its block B. -/
def GroupWords.ofRest (g : GroupRest) (b : Option Word16) : GroupWords := ⟨g.a, b, g.c, g.d⟩

/-- The mapping of a group at `pos` (R105). -/
def GroupWords.map (g : GroupWords) (pos : Nat) : GMap :=
  ⟨pos, g.a.isSome, g.b.isSome, g.c.isSome, g.d.isSome⟩

/-- `off_X` of a present letter: `pos`, `pos + 26`, `pos + 52`, `pos + 78`; C' is never a key (R105). -/
def GMap.offset (m : GMap) : Label → Option Nat
  | .A => if m.presentA then some m.pos else none
  | .B => if m.presentB then some (m.pos + 26) else none
  | .C => if m.presentC then some (m.pos + 52) else none
  | .D => if m.presentD then some (m.pos + 78) else none
  | .Cp => none

/-- The number of present letters of a mapping (R105). -/
def GMap.count (m : GMap) : Nat :=
  m.presentA.toNat + m.presentB.toNat + m.presentC.toNat + m.presentD.toNat

end Sys2Proof.Machine
end

