-- ==== Sys2Proof/Machine/Flags.lean ====
section
/-! DEFINITION. The conditions and flags (10_state.md R30): the parity, error counters and frame vote of stage 3
(42_symbol_sync.md R173, R179, R180, R183), the tolerance band of stage 2 (R155), the valid bits' and counters'
updates, and the report condition of stage 5 (R221). -/

namespace Sys2Proof.Machine

/-- `k = S.hs_cnt mod 2`, false for 0 (R179). -/
def parity (y : Sync) : Bool := decide (y.hsCnt % 2 = 1)

/-- `S.err[k]` (R23). -/
def errOf (k : Bool) (y : Sync) : Nat := if k then y.err1 else y.err0

/-- A sign transition between two values (R173, R180). -/
def signsDiffer (x y : Scalar) : Bool := decide (sgn x ≠ sgn y)

/-- `if sgn(a) ≠ sgn(S.prev_acc): S.err[k] <- S.err[k] + 1` (R180). -/
def recordErr (k : Bool) (a : Scalar) (y : Sync) : Sync :=
  if signsDiffer a y.prevAcc then
    if k then { y with err1 := y.err1 + 1 } else { y with err0 := y.err0 + 1 }
  else y

/-- The frame vote: the other parity has strictly fewer errors (R183). -/
def otherFrameBetter (y : Sync) : Bool := decide (errOf (!y.frame) y < errOf y.frame y)

/-- The bounds `F_NOM ± F_TOL` of the tolerance band, read strictly (R7, R155). -/
def outsideBand (f : Scalar) : Bool := decide (57000 + 12 < f) || decide (f < 57000 - 12)

/-- A counter that advances by 1 modulo `m` (R29). -/
def advance (n m : Nat) : Nat := (n + 1) % m

/-- `n ≥ CFG.MIN_LABELS` (R219, R221). -/
def reportable (c : Cfg) (m : GMap) : Bool := decide (c.minLabels ≤ m.count)

end Sys2Proof.Machine
end

