-- ==== Sys2Proof/Machine/Grp.lean ====
section
/-! DEFINITION. Stage 6, the group decoder (45_group_decoder.md): the block decoders, the arms, the whole group, and
the two renderings; and the meanings of the table's GRP rows, `pi_hex` and `pty_name`. -/

namespace Sys2Proof.Machine

/-- GRP.DEC_A (R242). -/
def grpDecA (w : Word16) (s : State) : State :=
  { s with station := { s.station with pi := w, piValid := true } }

/-- GRP.DEC_B (R243). The range check is the document's; a 5-bit field always passes it (R244). -/
def grpDecB (w : Word16) (s : State) : State :=
  if 31 < (wordPty w).toNat then raise .protocolError s
  else { s with station := { s.station with pty := wordPty w, ptyValid := true } }

/-- GRP.DEC_CD (R245). -/
def grpDecCd (w : Word16) : Byte × Byte := (charHi w, charLo w)

/-- Two characters at `idx`, `idx + 1` of the name buffer (R67, R249). -/
def writeName2 (idx : Nat) (w : Word16) (st : Station) : Station :=
  bufWriteName (idx + 1) (grpDecCd w).2 (bufWriteName idx (grpDecCd w).1 st)

/-- Two characters at `idx`, `idx + 1` of the radio-text buffer (R67, R251). -/
def writeRt2 (idx : Nat) (w : Word16) (st : Station) : Station :=
  bufWriteRt (idx + 1) (grpDecCd w).2 (bufWriteRt idx (grpDecCd w).1 st)

/-- GRP.ARM_0A (R249): the two characters of block D at `2·seg`, if D is present. -/
def arm0A (seg : BitVec 2) (d : Option Word16) (st : Station) : Station :=
  match d with
  | some w => writeName2 (2 * seg.toNat) w st
  | none => st

/-- GRP.ARM_2A (R250, R251): the clear, which needs block B only, and then the characters of C at `4·seg` and
of D at `4·seg + 2`, each if its block is present. -/
def arm2A (ab : Bool) (seg : BitVec 4) (c d : Option Word16) (st : Station) : Station :=
  let st := if ab then clearRt st else st
  let st := match c with
    | some w => writeRt2 (4 * seg.toNat) w st
    | none => st
  match d with
  | some w => writeRt2 (4 * seg.toNat + 2) w st
  | none => st

/-- GRP.ARM_OTHER (R252): nothing. -/
def armOther (st : Station) : Station := st

/-- The dispatch on `(gt, ver)` (R104, R248): 0A, 2A, and every other value. -/
def dispatchArm (w : Word16) (c d : Option Word16) (st : Station) : Station :=
  if wordGt w = 0#4 ∧ wordVer w = false then arm0A (wordSeg0A w) d st
  else if wordGt w = 2#4 ∧ wordVer w = false then arm2A (wordAb w) (wordSeg2A w) c d st
  else armOther st

/-- An arm writes the station state only. -/
def onStation (f : Station → Station) (s : State) : State := { s with station := f s.station }

/-- GRP.DEC_A if block A is present (R246, R247). -/
def decAIfPresent (a : Option Word16) (s : State) : State :=
  match a with
  | some w => grpDecA w s
  | none => s

/-- The group event with the snapshot as it is now (R257). -/
def emitGroup (m : GMap) (s : State) : State := emit (.group m s.station) s

/-- GRP.DECODE (R247) on the content words of the group at `pos`: A, then B and its arm, then the event. -/
def grpDecode (pos : Nat) (g : GroupWords) (s : State) : State :=
  let s := decAIfPresent g.a s
  let s := match g.b with
    | some w => onStation (dispatchArm w g.c g.d) (grpDecB w s)
    | none => s
  emitGroup (g.map pos) s

/-- A group whose block B holds `w` and selects the arm `arm`: GRP.DECODE with the dispatch already made
(R247, R248). The meanings of the 32 WORD_B rows are instances of it. -/
def groupWith (w : Word16) (arm : Station → Station) (g : GroupRest) (s : State) : State :=
  emitGroup ((GroupWords.ofRest g (some w)).map g.pos) (onStation arm (grpDecB w (decAIfPresent g.a s)))

/-- `StreamRead(off, 16)` of a letter if it is present (R241): an absent letter has no word. -/
def readWord (b : Bsync) (present : Bool) (off : Nat) : Option (Option Word16) :=
  if present then (streamRead b off 16).map some else some none

/-- The content words of a candidate by its offsets `pos + 26k` (R105, R241); none if a present letter's word
lies outside the window (R64). -/
def readGroup (b : Bsync) (pos : Nat) (pA pB pC pD : Bool) : Option GroupWords :=
  match readWord b pA pos, readWord b pB (pos + 26), readWord b pC (pos + 52), readWord b pD (pos + 78) with
  | some a, some bb, some c, some d => some ⟨a, bb, c, d⟩
  | _, _, _, _ => none

/-- One upper-case hexadecimal digit (R258). -/
def hexDigit (n : BitVec 4) : Char :=
  if n.toNat < 10 then Char.ofNat (48 + n.toNat) else Char.ofNat (55 + n.toNat)

/-- `pi_hex` (R258): four upper-case hexadecimal digits, `----` before any block A. -/
def piHex (valid : Bool) (pi : Word16) : Text :=
  if valid then
    [hexDigit (pi.extractLsb' 12 4), hexDigit (pi.extractLsb' 8 4), hexDigit (pi.extractLsb' 4 4),
      hexDigit (pi.extractLsb' 0 4)]
  else ['-', '-', '-', '-']

/-- `CFG.PTY_NAME[c]`: entries 0 and 31 are fixed, 1 to 30 are the configuration's (R8, R259). -/
def ptyEntry (c : Cfg) (code : Nat) : Text :=
  if code = 0 then ['N', 'o', 'n', 'e']
  else if code = 31 then ['A', 'l', 'a', 'r', 'm']
  else (c.ptyNames[code - 1]?).getD []

/-- `pty_name` (R259): absent is "None", a code up to 31 is its table entry, any other a ProtocolError. -/
def ptyName (c : Cfg) (code : Option Nat) : Except Cause Text :=
  match code with
  | none => .ok ['N', 'o', 'n', 'e']
  | some k => if k ≤ 31 then .ok (ptyEntry c k) else .error .protocolError

/-- The program-type name of a snapshot: `pty_name(S.pty if S.pty_valid else absent)` (R259). -/
def snapshotPtyName (c : Cfg) (st : Station) : Except Cause Text :=
  ptyName c (if st.ptyValid then some st.pty.toNat else none)

/-! ## Meanings -/

/-- GRP.DECODE run on its own (R247): the content words are read at `pos`; refused where the window does not
hold them (R64). -/
def execGrpDecode (pos : Nat) (pA pB pC pD : Bool) (s : State) : Host.Outcome State Fault Refusal :=
  match readGroup s.bsync pos pA pB pC pD with
  | some g => .next (grpDecode pos g s)
  | none => .refused .streamOutOfRange

/-- GRP.DEC_A (R242). -/
def execGrpDecA (w : Word16) (s : State) : Host.Outcome State Fault Refusal := .next (grpDecA w s)

/-- GRP.DEC_B (R243); hands on the fields of the word. -/
def execGrpDecB (w : Word16) (s : State) : Host.Outcome State Fault Refusal :=
  .next ((grpDecB w s).withResult (.wordB (wordGt w) (wordVer w) (wordTa w) (wordPty w) (wordTail w)))

/-- GRP.DEC_CD (R245); hands on the two characters. -/
def execGrpDecCd (w : Word16) (s : State) : Host.Outcome State Fault Refusal :=
  .next (s.withResult (.chars (grpDecCd w).1 (grpDecCd w).2))

/-- `pi_hex` (R258); hands on the text. -/
def execPiHex (valid : Bool) (pi : Word16) (s : State) : Host.Outcome State Fault Refusal :=
  .next (s.withResult (.text (piHex valid pi)))

/-- `pty_name` (R259); hands on the text, or records the ProtocolError (R300, R302). -/
def execPtyName (code : Option Nat) (s : State) : Host.Outcome State Fault Refusal :=
  match ptyName s.cfg code with
  | .ok t => .next (s.withResult (.text t))
  | .error c => .next ((raise c s).withResult (.error c))

end Sys2Proof.Machine
end

