-- ==== Sys2Proof/Machine/Groups.lean ====
section
/-! DEFINITION. The meanings of the 32 WORD_B rows (30_encoding.md R104): a reported group whose block B is this
word. Each is GRP.DECODE with the dispatch made by the row (45_group_decoder.md R247 to R252): PI from block A if it
is present, PTY from block B, the row's arm, and the group event. -/

namespace Sys2Proof.Machine

/-- The group of a row whose arm is GRP.ARM_OTHER (R252). -/
def otherGroup (sel : BitVec 5) (ta : Bool) (pty tail : BitVec 5) (g : GroupRest) (s : State) : State :=
  groupWith (encodeWordB sel ta pty tail) armOther g s

/-- Group 0A, station name (R249): `w[4:2]` is ignored. -/
def execGroup0A (ta : Bool) (pty : BitVec 5) (unused : BitVec 3) (seg : BitVec 2) (g : GroupRest) (s : State) :
    Host.Outcome State Fault Refusal :=
  .next (groupWith (encodeWordB 0#5 ta pty (unused ++ seg)) (arm0A seg g.d) g s)

/-- Group 0B, no text-buffer change (R252). -/
def execGroup0B (ta : Bool) (pty tail : BitVec 5) (g : GroupRest) (s : State) : Host.Outcome State Fault Refusal :=
  .next (otherGroup 1#5 ta pty tail g s)

/-- Group 1A, no text-buffer change (R252). -/
def execGroup1A (ta : Bool) (pty tail : BitVec 5) (g : GroupRest) (s : State) : Host.Outcome State Fault Refusal :=
  .next (otherGroup 2#5 ta pty tail g s)

/-- Group 1B, no text-buffer change (R252). -/
def execGroup1B (ta : Bool) (pty tail : BitVec 5) (g : GroupRest) (s : State) : Host.Outcome State Fault Refusal :=
  .next (otherGroup 3#5 ta pty tail g s)

/-- Group 2A, radio text (R250, R251). -/
def execGroup2A (ta : Bool) (pty : BitVec 5) (ab : Bool) (seg : BitVec 4) (g : GroupRest) (s : State) :
    Host.Outcome State Fault Refusal :=
  .next (groupWith (encodeWordB 4#5 ta pty (BitVec.ofBool ab ++ seg)) (arm2A ab seg g.c g.d) g s)

/-- Group 2B, no text-buffer change (R252). -/
def execGroup2B (ta : Bool) (pty tail : BitVec 5) (g : GroupRest) (s : State) : Host.Outcome State Fault Refusal :=
  .next (otherGroup 5#5 ta pty tail g s)

/-- Group 3A, no text-buffer change (R252). -/
def execGroup3A (ta : Bool) (pty tail : BitVec 5) (g : GroupRest) (s : State) : Host.Outcome State Fault Refusal :=
  .next (otherGroup 6#5 ta pty tail g s)

/-- Group 3B, no text-buffer change (R252). -/
def execGroup3B (ta : Bool) (pty tail : BitVec 5) (g : GroupRest) (s : State) : Host.Outcome State Fault Refusal :=
  .next (otherGroup 7#5 ta pty tail g s)

/-- Group 4A, no text-buffer change (R252). -/
def execGroup4A (ta : Bool) (pty tail : BitVec 5) (g : GroupRest) (s : State) : Host.Outcome State Fault Refusal :=
  .next (otherGroup 8#5 ta pty tail g s)

/-- Group 4B, no text-buffer change (R252). -/
def execGroup4B (ta : Bool) (pty tail : BitVec 5) (g : GroupRest) (s : State) : Host.Outcome State Fault Refusal :=
  .next (otherGroup 9#5 ta pty tail g s)

/-- Group 5A, no text-buffer change (R252). -/
def execGroup5A (ta : Bool) (pty tail : BitVec 5) (g : GroupRest) (s : State) : Host.Outcome State Fault Refusal :=
  .next (otherGroup 10#5 ta pty tail g s)

/-- Group 5B, no text-buffer change (R252). -/
def execGroup5B (ta : Bool) (pty tail : BitVec 5) (g : GroupRest) (s : State) : Host.Outcome State Fault Refusal :=
  .next (otherGroup 11#5 ta pty tail g s)

/-- Group 6A, no text-buffer change (R252). -/
def execGroup6A (ta : Bool) (pty tail : BitVec 5) (g : GroupRest) (s : State) : Host.Outcome State Fault Refusal :=
  .next (otherGroup 12#5 ta pty tail g s)

/-- Group 6B, no text-buffer change (R252). -/
def execGroup6B (ta : Bool) (pty tail : BitVec 5) (g : GroupRest) (s : State) : Host.Outcome State Fault Refusal :=
  .next (otherGroup 13#5 ta pty tail g s)

/-- Group 7A, no text-buffer change (R252). -/
def execGroup7A (ta : Bool) (pty tail : BitVec 5) (g : GroupRest) (s : State) : Host.Outcome State Fault Refusal :=
  .next (otherGroup 14#5 ta pty tail g s)

/-- Group 7B, no text-buffer change (R252). -/
def execGroup7B (ta : Bool) (pty tail : BitVec 5) (g : GroupRest) (s : State) : Host.Outcome State Fault Refusal :=
  .next (otherGroup 15#5 ta pty tail g s)

/-- Group 8A, no text-buffer change (R252). -/
def execGroup8A (ta : Bool) (pty tail : BitVec 5) (g : GroupRest) (s : State) : Host.Outcome State Fault Refusal :=
  .next (otherGroup 16#5 ta pty tail g s)

/-- Group 8B, no text-buffer change (R252). -/
def execGroup8B (ta : Bool) (pty tail : BitVec 5) (g : GroupRest) (s : State) : Host.Outcome State Fault Refusal :=
  .next (otherGroup 17#5 ta pty tail g s)

/-- Group 9A, no text-buffer change (R252). -/
def execGroup9A (ta : Bool) (pty tail : BitVec 5) (g : GroupRest) (s : State) : Host.Outcome State Fault Refusal :=
  .next (otherGroup 18#5 ta pty tail g s)

/-- Group 9B, no text-buffer change (R252). -/
def execGroup9B (ta : Bool) (pty tail : BitVec 5) (g : GroupRest) (s : State) : Host.Outcome State Fault Refusal :=
  .next (otherGroup 19#5 ta pty tail g s)

/-- Group 10A, no text-buffer change (R252). -/
def execGroup10A (ta : Bool) (pty tail : BitVec 5) (g : GroupRest) (s : State) : Host.Outcome State Fault Refusal :=
  .next (otherGroup 20#5 ta pty tail g s)

/-- Group 10B, no text-buffer change (R252). -/
def execGroup10B (ta : Bool) (pty tail : BitVec 5) (g : GroupRest) (s : State) : Host.Outcome State Fault Refusal :=
  .next (otherGroup 21#5 ta pty tail g s)

/-- Group 11A, no text-buffer change (R252). -/
def execGroup11A (ta : Bool) (pty tail : BitVec 5) (g : GroupRest) (s : State) : Host.Outcome State Fault Refusal :=
  .next (otherGroup 22#5 ta pty tail g s)

/-- Group 11B, no text-buffer change (R252). -/
def execGroup11B (ta : Bool) (pty tail : BitVec 5) (g : GroupRest) (s : State) : Host.Outcome State Fault Refusal :=
  .next (otherGroup 23#5 ta pty tail g s)

/-- Group 12A, no text-buffer change (R252). -/
def execGroup12A (ta : Bool) (pty tail : BitVec 5) (g : GroupRest) (s : State) : Host.Outcome State Fault Refusal :=
  .next (otherGroup 24#5 ta pty tail g s)

/-- Group 12B, no text-buffer change (R252). -/
def execGroup12B (ta : Bool) (pty tail : BitVec 5) (g : GroupRest) (s : State) : Host.Outcome State Fault Refusal :=
  .next (otherGroup 25#5 ta pty tail g s)

/-- Group 13A, no text-buffer change (R252). -/
def execGroup13A (ta : Bool) (pty tail : BitVec 5) (g : GroupRest) (s : State) : Host.Outcome State Fault Refusal :=
  .next (otherGroup 26#5 ta pty tail g s)

/-- Group 13B, no text-buffer change (R252). -/
def execGroup13B (ta : Bool) (pty tail : BitVec 5) (g : GroupRest) (s : State) : Host.Outcome State Fault Refusal :=
  .next (otherGroup 27#5 ta pty tail g s)

/-- Group 14A, no text-buffer change (R252). -/
def execGroup14A (ta : Bool) (pty tail : BitVec 5) (g : GroupRest) (s : State) : Host.Outcome State Fault Refusal :=
  .next (otherGroup 28#5 ta pty tail g s)

/-- Group 14B, no text-buffer change (R252). -/
def execGroup14B (ta : Bool) (pty tail : BitVec 5) (g : GroupRest) (s : State) : Host.Outcome State Fault Refusal :=
  .next (otherGroup 29#5 ta pty tail g s)

/-- Group 15A, no text-buffer change (R252). -/
def execGroup15A (ta : Bool) (pty tail : BitVec 5) (g : GroupRest) (s : State) : Host.Outcome State Fault Refusal :=
  .next (otherGroup 30#5 ta pty tail g s)

/-- Group 15B, no text-buffer change (R252). -/
def execGroup15B (ta : Bool) (pty tail : BitVec 5) (g : GroupRest) (s : State) : Host.Outcome State Fault Refusal :=
  .next (otherGroup 31#5 ta pty tail g s)

end Sys2Proof.Machine
end

