-- ==== Sys2Proof/Machine/Bsync.lean ====
section
/-! DEFINITION. Stage 5, syndrome, classification and scanner (44_block_sync.md), and the meanings of its rows. -/

namespace Sys2Proof.Machine

/-- One shift-and-reduce step of the 11-bit CRC register (R211), generator 0x5B9. -/
def crcStep (reg : BitVec 11) (b : Bool) : BitVec 11 :=
  let reg := (reg <<< 1) ||| (BitVec.ofBool b).setWidth 11
  if reg.getLsbD 10 then reg ^^^ 0x5B9#11 else reg

/-- The window bits in stream order and then ten zeros (R211, D19); the result is `reg[9:0]`. -/
def crcBits (bs : List Bool) : BitVec 10 :=
  ((bs ++ List.replicate 10 false).foldl crcStep 0#11).setWidth 10

/-- SYNDROME (R211): the length check comes before any computation (R217, R301). -/
def syndrome (m mlen : Nat) : Except Cause (BitVec 10) :=
  if mlen = 16 ∨ mlen = 26 then .ok (crcBits (streamBits m mlen)) else .error .configurationError

/-- SYNDROME on a 26-bit window, where the length error cannot arise (R217). -/
def syndrome26 (k : Block26) : BitVec 10 := crcBits (streamBits k.toNat 26)

/-- CRC16 (R213): SYNDROME on a 16-bit data word. -/
def crc16 (d : Word16) : BitVec 10 := crcBits (streamBits d.toNat 16)

/-- CLASSIFY (R215): the label of a window, or none (SyncMiss, R303). -/
def classify (k : Block26) : Option Label := labelOfSyndrome (syndrome26 k)

/-- The window is a block of the label expected at its place (R219, R220). -/
def windowIs (l : Label) (k : Block26) : Bool := decide (classify k = some l)

/-- The content word of a window, present only if its label is the expected one (R219, R220, R241). -/
def wordIf (l : Label) (k : Block26) : Option Word16 := if windowIs l k then some (blockData k) else none

/-- The content words of the candidate in the window (R219, R241). -/
def candidate (w : BitVec 104) : GroupWords :=
  ⟨wordIf .A (blockA w), wordIf .B (blockB w), wordIf .C (blockC w), wordIf .D (blockD w)⟩

/-- BSYNC.SCAN (R219, R221): a candidate with enough labels is decoded at once; any other leaves no trace. -/
def bsyncScan (s : State) : State :=
  let pos := s.bsync.nbits - 104
  let g := candidate s.bsync.win
  if reportable s.cfg (g.map pos) then grpDecode pos g s else raise .syncMiss s

/-- The window with one more bit: the oldest falls out of bit 103 (R218). -/
def pushBit (b : Bool) (y : Bsync) : Bsync :=
  { win := (y.win <<< 1) ||| (BitVec.ofBool b).setWidth 104, nbits := y.nbits + 1 }

/-- BSYNC.SHIFT (R218). -/
def bsyncShift (b : Bool) (s : State) : State :=
  let s := { s with bsync := pushBit b s.bsync }
  if 104 ≤ s.bsync.nbits then bsyncScan s else s

/-! ## Meanings -/

/-- SYNDROME run on its own (R211, R301): hands on the syndrome, or records the ConfigurationError. -/
def execSyndrome (m mlen : Nat) (s : State) : Host.Outcome State Fault Refusal :=
  match syndrome m mlen with
  | .ok c => .next (s.withResult (.syndrome c))
  | .error c => .next ((raise c s).withResult (.error c))

/-- CRC16 (R213). -/
def execCrc16 (d : Word16) (s : State) : Host.Outcome State Fault Refusal :=
  .next (s.withResult (.syndrome (crc16 d)))

/-- CLASSIFY (R215). -/
def execClassify (k : Block26) (s : State) : Host.Outcome State Fault Refusal :=
  .next (s.withResult (.label (classify k)))

/-- BSYNC.SHIFT (R218). -/
def execBsyncShift (b : Bool) (s : State) : Host.Outcome State Fault Refusal := .next (bsyncShift b s)

/-- BSYNC.SCAN run on its own (R219): its windows are StreamReads from `S.nbits - 104` on, so it is refused
while fewer than 104 bits have arrived (R64, R218). -/
def execBsyncScan (s : State) : Host.Outcome State Fault Refusal :=
  if 104 ≤ s.bsync.nbits then .next (bsyncScan s) else .refused .streamOutOfRange

end Sys2Proof.Machine
end

