-- ==== Sys2Proof/Machine/Diff.lean ====
section
/-! DEFINITION. Stage 4, the differential decoder (43_differential.md). -/

namespace Sys2Proof.Machine

/-- DIFF.STEP (R201): every raw symbol but the first gives the logical bit `s ⊕ S.d_prev`. -/
def diffStep (sym : Bool) (s : State) : State :=
  let s :=
    if s.diff.dValid then
      let b := sym ^^ s.diff.dPrev
      bsyncShift b (emit (.bit b) s)
    else s
  { s with diff := { dPrev := sym, dValid := true } }

/-- DIFF.STEP (R201). -/
def execDiffStep (sym : Bool) (s : State) : Host.Outcome State Fault Refusal := .next (diffStep sym s)

end Sys2Proof.Machine
end

