-- ==== Sys2Proof/Machine/Sync.lean ====
section
/-! DEFINITION. Stage 3, the symbol-timing synchronizer (42_symbol_sync.md), and the meanings of its rows. -/

namespace Sys2Proof.Machine

/-- SYNC.CLOCK (R172): the clock phase and the sign of the local bit clock. -/
def syncClock (s : State) : Scalar × Sign :=
  let cphi := s.pll.phi / 48 + s.sync.clkOff
  (cphi, if fmodp cphi (2 * s.cfg.num.pi) < s.cfg.num.pi then .plus else .minus)

/-- How far the clock is past the nearest multiple of π, in `[-π/2, π/2)` (R174). -/
def clockError (n : NumSys) (cphi : Scalar) : Scalar :=
  let d := fmodp cphi n.pi
  if n.pi / 2 ≤ d then d - n.pi else d

/-- SYNC.ADJ (R173, R174). -/
def syncAdj (bb cphi : Scalar) (s : State) : State :=
  if signsDiffer bb s.sync.prevBb then
    { s with sync := { s.sync with clkOff := s.sync.clkOff - s.cfg.clkGain * clockError s.cfg.num cphi } }
  else s

/-- SYNC.INTEG (R175). -/
def syncInteg (bb : Scalar) (lo : Sign) (s : State) : State :=
  { s with sync := { s.sync with acc := s.sync.acc + bb * lo.toScalar } }

/-- SYNC.FRAMESEL (R183). -/
def syncFramesel (s : State) : State :=
  { s with sync :=
      { s.sync with
        frame := if otherFrameBetter s.sync then !s.sync.frame else s.sync.frame
        err0 := 0
        err1 := 0 } }

/-- The raw symbol of a decision (R181): 1 iff the sum of the two half-symbols is not negative. -/
def rawSymbol (a : Scalar) (y : Sync) : Bool := decide (0 ≤ a + y.prevAcc)

/-- The emission of a raw symbol (R181). -/
def emitSymbol (a : Scalar) (s : State) : State :=
  diffStep (rawSymbol a s.sync) (emit (.sym (rawSymbol a s.sync)) s)

/-- SYNC.HALFSYM (R178): error, symbol, previous value, count, and every 800th time the frame selection. -/
def syncHalfsym (a : Scalar) (s : State) : State :=
  let k := parity s.sync
  let s := { s with sync := recordErr k a s.sync }
  let s := if k = s.sync.frame then emitSymbol a s else s
  let s := { s with sync := { s.sync with prevAcc := a, hsCnt := advance s.sync.hsCnt 800 } }
  if s.sync.hsCnt = 0 then syncFramesel s else s

/-- SYNC.DUMP (R176). -/
def syncDump (lo : Sign) (s : State) : State :=
  if lo ≠ s.sync.prevLo then
    let s := syncHalfsym s.sync.acc s
    { s with sync := { s.sync with acc := 0 } }
  else s

/-- SYNC.TICK (R171). -/
def syncTick (bb : Scalar) (s : State) : State :=
  let (cphi, lo) := syncClock s
  let s := syncDump lo (syncInteg bb lo (syncAdj bb cphi s))
  { s with sync := { s.sync with prevLo := lo, prevBb := bb } }

/-! ## Meanings -/

/-- SYNC.TICK (R171). -/
def execSyncTick (bb : Scalar) (s : State) : Host.Outcome State Fault Refusal := .next (syncTick bb s)

/-- SYNC.CLOCK (R172); hands on the clock phase and sign. -/
def execSyncClock (s : State) : Host.Outcome State Fault Refusal :=
  .next (s.withResult (.clock (syncClock s).1 (syncClock s).2))

/-- SYNC.ADJ (R174). -/
def execSyncAdj (bb cphi : Scalar) (s : State) : Host.Outcome State Fault Refusal := .next (syncAdj bb cphi s)

/-- SYNC.INTEG (R175). -/
def execSyncInteg (bb : Scalar) (lo : Sign) (s : State) : Host.Outcome State Fault Refusal :=
  .next (syncInteg bb lo s)

/-- SYNC.DUMP (R176). -/
def execSyncDump (lo : Sign) (s : State) : Host.Outcome State Fault Refusal := .next (syncDump lo s)

/-- SYNC.HALFSYM (R178). -/
def execSyncHalfsym (a : Scalar) (s : State) : Host.Outcome State Fault Refusal := .next (syncHalfsym a s)

/-- SYNC.FRAMESEL (R183). -/
def execSyncFramesel (s : State) : Host.Outcome State Fault Refusal := .next (syncFramesel s)

end Sys2Proof.Machine
end

