-- ==== Sys2Proof/Machine/Pll.lean ====
section
/-! DEFINITION. Stage 2, the carrier-recovery PLL (41_carrier_pll.md), and the meanings of its rows. -/

namespace Sys2Proof.Machine

/-- PLL.NCO (R151): the phase is not reduced (R49). -/
def pllNco (s : State) : State :=
  { s with pll := { s.pll with phi := s.pll.phi + 2 * s.cfg.num.pi * s.pll.fEst / s.cfg.fsMpx } }

/-- PLL.MIX (R152): the arms `i_bb` (cosine) and `q_bb` (sine). -/
def pllMix (y : Scalar) (s : State) : State × Scalar × Scalar :=
  let i := s.cfg.lpfIq.realStep s.pll.lpfI (y * s.cfg.num.cos s.pll.phi)
  let q := s.cfg.lpfIq.realStep s.pll.lpfQ (y * s.cfg.num.sin s.pll.phi)
  ({ s with pll := { s.pll with lpfI := i.1, lpfQ := q.1 } }, i.2, q.2)

/-- PLL.ERR (R153): the filtered product of the arms. -/
def pllErr (iBb qBb : Scalar) (s : State) : State × Scalar :=
  let e := s.cfg.lpfErr.realStep s.pll.lpfErr (iBb * qBb)
  ({ s with pll := { s.pll with lpfErr := e.1 } }, e.2)

/-- PLL.FEEDBACK (R154). -/
def pllFeedback (e : Scalar) (s : State) : State :=
  { s with pll :=
      { s.pll with
        phi := s.pll.phi - s.cfg.pllBeta * e
        fEst := s.pll.fEst - s.cfg.pllBeta / 2 * e } }

/-- PLL.SNAP (R155): only the frequency estimate is reset. -/
def pllSnap (s : State) : State :=
  if outsideBand s.pll.fEst then { s with pll := { s.pll with fEst := 57000 } } else s

/-- PLL.TICKCNT (R157): the first call and every DEC2-th after it is a tick. -/
def pllTickcnt (iBb : Scalar) (s : State) : State :=
  let tick := decide (s.sync.n2 = 0)
  let s := { s with sync := { s.sync with n2 := advance s.sync.n2 s.cfg.dec2 } }
  if tick then syncTick iBb s else s

/-- PLL.STEP (R150). Stage 3 is handed the in-phase arm (R156). -/
def pllStep (y : Scalar) (s : State) : State :=
  let (s, iBb, qBb) := pllMix y (pllNco s)
  let (s, e) := pllErr iBb qBb s
  pllTickcnt iBb (pllSnap (pllFeedback e s))

/-! ## Meanings -/

/-- PLL.STEP (R150). -/
def execPllStep (y : Scalar) (s : State) : Host.Outcome State Fault Refusal := .next (pllStep y s)

/-- PLL.NCO (R151). -/
def execPllNco (s : State) : Host.Outcome State Fault Refusal := .next (pllNco s)

/-- PLL.MIX (R152); hands on the two arms. -/
def execPllMix (y : Scalar) (s : State) : Host.Outcome State Fault Refusal :=
  .next ((pllMix y s).1.withResult (.arms (pllMix y s).2.1 (pllMix y s).2.2))

/-- PLL.ERR (R153); hands on the error. -/
def execPllErr (iBb qBb : Scalar) (s : State) : Host.Outcome State Fault Refusal :=
  .next ((pllErr iBb qBb s).1.withResult (.real (pllErr iBb qBb s).2))

/-- PLL.FEEDBACK (R154). -/
def execPllFeedback (e : Scalar) (s : State) : Host.Outcome State Fault Refusal := .next (pllFeedback e s)

/-- PLL.SNAP (R155). -/
def execPllSnap (s : State) : Host.Outcome State Fault Refusal := .next (pllSnap s)

/-- PLL.TICKCNT (R157). -/
def execPllTickcnt (iBb : Scalar) (s : State) : Host.Outcome State Fault Refusal := .next (pllTickcnt iBb s)

end Sys2Proof.Machine
end

