-- ==== Sys2Proof/Machine/DemodStage.lean ====
section
/-! DEFINITION. Stage 1, the quadrature demodulator (40_demodulator.md), and the meanings of its rows. -/

namespace Sys2Proof.Machine

/-- DEMOD.FILT (R132): `u`. -/
def demodFilt (z : Cplx) (s : State) : State × Cplx :=
  let r := s.cfg.bpf1.cplxStep s.demod.bpf1 z
  ({ s with demod := { s.demod with bpf1 := r.1 } }, r.2)

/-- DEMOD.MIX (R133): `v = u · (cos θ1 - j·sin θ1)`; the phasor is read before it advances. -/
def demodMix (u : Cplx) (s : State) : State × Cplx :=
  let n := s.cfg.num
  let v := u.mul ⟨n.cos s.demod.theta1, -(n.sin s.demod.theta1)⟩
  let theta := fmodp (s.demod.theta1 + 2 * n.pi * s.cfg.fOffset / s.cfg.fsIn) (2 * n.pi)
  ({ s with demod := { s.demod with theta1 := theta } }, v)

/-- DEMOD.DECIM (R134): `keep`. -/
def demodDecim (s : State) : State × Bool :=
  ({ s with demod := { s.demod with n1 := advance s.demod.n1 s.cfg.dec1 } }, decide (s.demod.n1 = 0))

/-- DEMOD.DISC (R135): `y`. -/
def demodDisc (v : Cplx) (s : State) : State × Scalar :=
  ({ s with demod := { s.demod with vPrev := v } }, s.cfg.fmGain * s.cfg.num.arg (v.mul s.demod.vPrev.conj))

/-- DEMOD.STEP (R136). -/
def demodStep (z : Cplx) (s : State) : State :=
  let (s, u) := demodFilt z s
  let (s, v) := demodMix u s
  let (s, keep) := demodDecim s
  if keep then
    let (s, y) := demodDisc v s
    pllStep y s
  else s

/-! ## Meanings -/

/-- DEMOD.STEP (R136). -/
def execDemodStep (z : Cplx) (s : State) : Host.Outcome State Fault Refusal := .next (demodStep z s)

/-- DEMOD.FILT (R132); hands on `u`. -/
def execDemodFilt (z : Cplx) (s : State) : Host.Outcome State Fault Refusal :=
  .next ((demodFilt z s).1.withResult (.cplx (demodFilt z s).2))

/-- DEMOD.MIX (R133); hands on `v`. -/
def execDemodMix (u : Cplx) (s : State) : Host.Outcome State Fault Refusal :=
  .next ((demodMix u s).1.withResult (.cplx (demodMix u s).2))

/-- DEMOD.DECIM (R134); hands on `keep`. -/
def execDemodDecim (s : State) : Host.Outcome State Fault Refusal :=
  .next ((demodDecim s).1.withResult (.keep (demodDecim s).2))

/-- DEMOD.DISC (R135); hands on `y`. -/
def execDemodDisc (v : Cplx) (s : State) : Host.Outcome State Fault Refusal :=
  .next ((demodDisc v s).1.withResult (.real (demodDisc v s).2))

end Sys2Proof.Machine
end

