-- ==== Sys2Proof/Machine/Port.lean ====
section
/-! DEFINITION. The port events (46_port_events.md): the meanings of the five STROBE rows. -/

namespace Sys2Proof.Machine

/-- RESET (R287, R340). -/
def execReset (s : State) : Host.Outcome State Fault Refusal := .next (resetEvent s)

/-- SAMPLE (R288). -/
def execSample (z : Cplx) (s : State) : Host.Outcome State Fault Refusal := .next (portEvent (demodStep z) s)

/-- BIT (R289): straight to stage 5 (R204). -/
def execBit (b : Bool) (s : State) : Host.Outcome State Fault Refusal := .next (portEvent (bsyncShift b) s)

/-- IDLE (R290): nothing changes. -/
def execIdle (s : State) : Host.Outcome State Fault Refusal := .next (portEvent id s)

/-- The reserved vector 011 (R285): the mark is set and nothing else changes. -/
def execStrobeReserved (s : State) : Host.Outcome State Fault Refusal := .next (portEvent (raise .refused) s)

end Sys2Proof.Machine
end

