-- ==== Sys2Proof/Machine/Syn.lean ====
section
/-! DEFINITION. The meanings of the five SYN rows (30_encoding.md R94, 44_block_sync.md R215): a window with this
syndrome has this label. -/

namespace Sys2Proof.Machine

/-- The outcome of a classification (R215); it writes no state element. -/
def labelled (l : Label) (s : State) : State := s.withResult (.label (some l))

/-- Syndrome 383: label A (R94). -/
def execSynA (s : State) : Host.Outcome State Fault Refusal := .next (labelled .A s)

/-- Syndrome 14: label B (R94). -/
def execSynB (s : State) : Host.Outcome State Fault Refusal := .next (labelled .B s)

/-- Syndrome 303: label C (R94). -/
def execSynC (s : State) : Host.Outcome State Fault Refusal := .next (labelled .C s)

/-- Syndrome 663: label D (R94). -/
def execSynD (s : State) : Host.Outcome State Fault Refusal := .next (labelled .D s)

/-- Syndrome 748: label C' (R94). -/
def execSynCp (s : State) : Host.Outcome State Fault Refusal := .next (labelled .Cp s)

end Sys2Proof.Machine
end

