-- ==== Sys2Proof/Machine/Dispatch.lean ====
section
/-! DEFINITION. One arm for each constructor of Instr: a direct call of its meaning. -/

namespace Sys2Proof.Machine

def exec (i : Instr) (s : State) : Host.Outcome State Fault Refusal :=
  match i with
  | .reset => Sys2Proof.Machine.execReset s
  | .sample z => Sys2Proof.Machine.execSample z s
  | .bit b => Sys2Proof.Machine.execBit b s
  | .idle => Sys2Proof.Machine.execIdle s
  | .strobeReserved => Sys2Proof.Machine.execStrobeReserved s
  | .synA => Sys2Proof.Machine.execSynA s
  | .synB => Sys2Proof.Machine.execSynB s
  | .synC => Sys2Proof.Machine.execSynC s
  | .synD => Sys2Proof.Machine.execSynD s
  | .synCp => Sys2Proof.Machine.execSynCp s
  | .group0A ta pty unused seg g => Sys2Proof.Machine.execGroup0A ta pty unused seg g s
  | .group0B ta pty tail g => Sys2Proof.Machine.execGroup0B ta pty tail g s
  | .group1A ta pty tail g => Sys2Proof.Machine.execGroup1A ta pty tail g s
  | .group1B ta pty tail g => Sys2Proof.Machine.execGroup1B ta pty tail g s
  | .group2A ta pty ab seg g => Sys2Proof.Machine.execGroup2A ta pty ab seg g s
  | .group2B ta pty tail g => Sys2Proof.Machine.execGroup2B ta pty tail g s
  | .group3A ta pty tail g => Sys2Proof.Machine.execGroup3A ta pty tail g s
  | .group3B ta pty tail g => Sys2Proof.Machine.execGroup3B ta pty tail g s
  | .group4A ta pty tail g => Sys2Proof.Machine.execGroup4A ta pty tail g s
  | .group4B ta pty tail g => Sys2Proof.Machine.execGroup4B ta pty tail g s
  | .group5A ta pty tail g => Sys2Proof.Machine.execGroup5A ta pty tail g s
  | .group5B ta pty tail g => Sys2Proof.Machine.execGroup5B ta pty tail g s
  | .group6A ta pty tail g => Sys2Proof.Machine.execGroup6A ta pty tail g s
  | .group6B ta pty tail g => Sys2Proof.Machine.execGroup6B ta pty tail g s
  | .group7A ta pty tail g => Sys2Proof.Machine.execGroup7A ta pty tail g s
  | .group7B ta pty tail g => Sys2Proof.Machine.execGroup7B ta pty tail g s
  | .group8A ta pty tail g => Sys2Proof.Machine.execGroup8A ta pty tail g s
  | .group8B ta pty tail g => Sys2Proof.Machine.execGroup8B ta pty tail g s
  | .group9A ta pty tail g => Sys2Proof.Machine.execGroup9A ta pty tail g s
  | .group9B ta pty tail g => Sys2Proof.Machine.execGroup9B ta pty tail g s
  | .group10A ta pty tail g => Sys2Proof.Machine.execGroup10A ta pty tail g s
  | .group10B ta pty tail g => Sys2Proof.Machine.execGroup10B ta pty tail g s
  | .group11A ta pty tail g => Sys2Proof.Machine.execGroup11A ta pty tail g s
  | .group11B ta pty tail g => Sys2Proof.Machine.execGroup11B ta pty tail g s
  | .group12A ta pty tail g => Sys2Proof.Machine.execGroup12A ta pty tail g s
  | .group12B ta pty tail g => Sys2Proof.Machine.execGroup12B ta pty tail g s
  | .group13A ta pty tail g => Sys2Proof.Machine.execGroup13A ta pty tail g s
  | .group13B ta pty tail g => Sys2Proof.Machine.execGroup13B ta pty tail g s
  | .group14A ta pty tail g => Sys2Proof.Machine.execGroup14A ta pty tail g s
  | .group14B ta pty tail g => Sys2Proof.Machine.execGroup14B ta pty tail g s
  | .group15A ta pty tail g => Sys2Proof.Machine.execGroup15A ta pty tail g s
  | .group15B ta pty tail g => Sys2Proof.Machine.execGroup15B ta pty tail g s
  | .demodStep z => Sys2Proof.Machine.execDemodStep z s
  | .demodFilt z => Sys2Proof.Machine.execDemodFilt z s
  | .demodMix u => Sys2Proof.Machine.execDemodMix u s
  | .demodDecim => Sys2Proof.Machine.execDemodDecim s
  | .demodDisc v => Sys2Proof.Machine.execDemodDisc v s
  | .pllStep y => Sys2Proof.Machine.execPllStep y s
  | .pllNco => Sys2Proof.Machine.execPllNco s
  | .pllMix y => Sys2Proof.Machine.execPllMix y s
  | .pllErr iBb qBb => Sys2Proof.Machine.execPllErr iBb qBb s
  | .pllFeedback e => Sys2Proof.Machine.execPllFeedback e s
  | .pllSnap => Sys2Proof.Machine.execPllSnap s
  | .pllTickcnt iBb => Sys2Proof.Machine.execPllTickcnt iBb s
  | .syncTick bb => Sys2Proof.Machine.execSyncTick bb s
  | .syncClock => Sys2Proof.Machine.execSyncClock s
  | .syncAdj bb cphi => Sys2Proof.Machine.execSyncAdj bb cphi s
  | .syncInteg bb lo => Sys2Proof.Machine.execSyncInteg bb lo s
  | .syncDump lo => Sys2Proof.Machine.execSyncDump lo s
  | .syncHalfsym a => Sys2Proof.Machine.execSyncHalfsym a s
  | .syncFramesel => Sys2Proof.Machine.execSyncFramesel s
  | .diffStep sym => Sys2Proof.Machine.execDiffStep sym s
  | .syndrome m mlen => Sys2Proof.Machine.execSyndrome m mlen s
  | .crc16 d => Sys2Proof.Machine.execCrc16 d s
  | .classify k => Sys2Proof.Machine.execClassify k s
  | .bsyncShift b => Sys2Proof.Machine.execBsyncShift b s
  | .bsyncScan => Sys2Proof.Machine.execBsyncScan s
  | .grpDecode pos pA pB pC pD => Sys2Proof.Machine.execGrpDecode pos pA pB pC pD s
  | .grpDecA w => Sys2Proof.Machine.execGrpDecA w s
  | .grpDecB w => Sys2Proof.Machine.execGrpDecB w s
  | .grpDecCd w => Sys2Proof.Machine.execGrpDecCd w s
  | .piHex valid pi => Sys2Proof.Machine.execPiHex valid pi s
  | .ptyName code => Sys2Proof.Machine.execPtyName code s

end Sys2Proof.Machine
end

