-- ==== Sys2Proof/Machine/Step.lean ====
section
/-! DEFINITION. One step: the machine takes the next input of the host, decodes it and runs the instruction to
completion (46_port_events.md R281), its output events starting from an empty list (R286). -/

namespace Sys2Proof.Machine

/-- The state in which an instruction runs: its input taken, no output event yet (R286). -/
def State.accept (s : State) : State := { s with inputs := s.inputs.tail, out := [] }

/-- One step. With nothing presented the strobes are 000, which is IDLE (R290, R317); a 10-bit value that is no
syndrome code is a SyncMiss with label none, not an error (R107, R215, R303). notes/assumptions/5.md. -/
def step (s : State) : Host.Outcome State Fault Refusal :=
  match s.inputs with
  | [] => exec .idle s.accept
  | x :: _ =>
    match decode x with
    | .ok i => exec i s.accept
    | .error .notASyndromeCode => .next ((raise .syncMiss s.accept).withResult (.label none))

/-- `s` with the table's word `w` of width `nbits` presented next; a row without an encoding has nothing to
present. notes/assumptions/6.md. -/
def State.withFetchWord (s : State) (nbits w : Nat) : State :=
  match tableInput nbits w with
  | some x => s.present x
  | none => s

end Sys2Proof.Machine
end

