-- ==== Sys2Proof/Machine/Stimulus.lean ====
section
/-! DEFINITION. The transmitter's side, outside the block: offset words and block encoding (30_encoding.md R95, R110),
the stimulus notation (R110), the differential encoder (43_differential.md R203), and the textual group type (R109). -/

namespace Sys2Proof.Machine

/-- The offset word of a label (R95). -/
def offsetWord : Label → BitVec 10
  | .A => 252#10
  | .B => 408#10
  | .C => 360#10
  | .D => 436#10
  | .Cp => 848#10

/-- `BLOCK X d` as a 26-bit value: `d·2¹⁰ + (CRC16(d) ⊕ OW_X)` (R95, R110). -/
def mkBlock (l : Label) (d : Word16) : Block26 := d ++ (crc16 d ^^^ offsetWord l)

/-- The four blocks of `GROUP a b c d`, first block in the top bits (R110, R62). -/
def mkGroup (a b c d : Word16) : BitVec 104 := mkBlock .A a ++ mkBlock .B b ++ mkBlock .C c ++ mkBlock .D d

/-- One `BIT b` port event: strobes 001 (R91). -/
def bitEvent (b : Bool) : Input := .strobes 0b001#3 default b

/-- A line of a program in the stimulus notation (R110). -/
inductive Stim where
  | reset
  | sample (re im : Scalar)
  | bit (b : Bool)
  | idle
  | bits (bs : List Bool)
  | block (l : Label) (d : Word16)
  | group (a b c d : Word16)
  | badblock (l : Label) (d : Word16) (m : Block26)
deriving DecidableEq, Repr, Inhabited

/-- The `BIT` events of a block, bit 25 first (R110). -/
def blockEvents (k : Block26) : List Input := (streamBits k.toNat 26).map bitEvent

/-- The port events a line stands for (R110). -/
def Stim.expand : Stim → List Input
  | .reset => [.strobes 0b100#3 default false]
  | .sample re im => [.strobes 0b010#3 ⟨re, im⟩ false]
  | .bit b => [bitEvent b]
  | .idle => [.strobes 0b000#3 default false]
  | .bits bs => bs.map bitEvent
  | .block l d => blockEvents (mkBlock l d)
  | .group a b c d =>
    blockEvents (mkBlock .A a) ++ blockEvents (mkBlock .B b) ++ blockEvents (mkBlock .C c) ++ blockEvents (mkBlock .D d)
  | .badblock l d m => blockEvents (mkBlock l d ^^^ m)

/-- The transmitter's differential encoder after the symbol `prev` (R203): each sent symbol is the logical bit
XOR the previously sent one. -/
def diffEncode (prev : Bool) : List Bool → List Bool
  | [] => []
  | t :: ts => (t ^^ prev) :: diffEncode (t ^^ prev) ts

/-- A group type as text: its hexadecimal digit and the version letter (R109). One upper-case digit for the types 10
to 15 ("FB" where R104 and R252 write "15B") is a DESIGN CHOICE, notes/assumptions/20.md. -/
def groupTypeText (w : Word16) : Text := [hexDigit (wordGt w), if wordVer w then 'B' else 'A']

end Sys2Proof.Machine
end

