-- ==== Sys2Proof/Safety.lean ====
section
/-! DEFINITION. Runs and the terms claims use: presenting a sequence of events and collecting their output
(20_memory.md R71), a run with a meaning (60_exceptions.md R305), the invariant of the state (10_state.md R51), and
the batch form of the scanner (44_block_sync.md R223). -/

namespace Sys2Proof.Machine

/-- The fold of the step over a sequence of inputs, with the concatenation of their output events (R71, R281). -/
def runInputs : List Input → State → Option (State × List OutEvent)
  | [], s => some (s, [])
  | x :: xs, s =>
    match step (s.present x) with
    | .next s1 => (runInputs xs s1).map fun r => (r.1, s1.out ++ r.2)
    | .fault _ => none
    | .refused _ => none

/-- `n` steps on the inputs that wait in the state, with the concatenation of their output events (R71, R281). -/
def runSteps : Nat → State → Option (State × List OutEvent)
  | 0, s => some (s, [])
  | n + 1, s =>
    match step s with
    | .next s1 => (runSteps n s1).map fun r => (r.1, s1.out ++ r.2)
    | .fault _ => none
    | .refused _ => none

/-- No mark says that the run has lost its meaning (R301, R305). -/
def State.meaningful (s : State) : Prop := s.cfgOk = true ∧ s.flags.fltConfig = false ∧ s.flags.refused = false

/-- The block accepts port events: the last RESET sampled a legal configuration and no ConfigurationError is
pending (R287, R301). -/
def State.accepting (s : State) : Prop := s.cfgOk = true ∧ s.flags.fltConfig = false

/-- The ranges of the counters and of the frequency estimate (R51), strengthened so that every step keeps them: a
parity has had half of the window's decisions (R183), and the sampled configuration is legal (R287). -/
structure State.Inv (s : State) : Prop where
  cfgLegal : s.cfg.legal
  n1Lt     : s.demod.n1 < s.cfg.dec1
  n2Lt     : s.sync.n2 < s.cfg.dec2
  hsLt     : s.sync.hsCnt < 800
  err0Le   : s.sync.err0 ≤ (s.sync.hsCnt + 1) / 2
  err1Le   : s.sync.err1 ≤ s.sync.hsCnt / 2
  fEstLo   : 57000 - 12 ≤ s.pll.fEst
  fEstHi   : s.pll.fEst ≤ 57000 + 12
  thetaLo  : 0 ≤ s.demod.theta1
  thetaHi  : s.demod.theta1 < 2 * s.cfg.num.pi

/-- The fold of the meanings over a sequence of instructions; output events are appended. -/
def runInstrs : List Instr → State → Option State
  | [], s => some s
  | i :: is, s =>
    match exec i s with
    | .next s1 => runInstrs is s1
    | .fault _ => none
    | .refused _ => none

/-- The logical bits of the bit tap in an output list (R283). -/
def tapBits : List OutEvent → List Bool
  | [] => []
  | .bit b :: es => b :: tapBits es
  | .sym _ :: es => tapBits es
  | .group _ _ :: es => tapBits es

/-- The group events of an output list, without their snapshots (R223). -/
def groupMaps : List OutEvent → List GMap
  | [] => []
  | .group m _ :: es => m :: groupMaps es
  | .sym _ :: es => groupMaps es
  | .bit _ :: es => groupMaps es

/-- The table `T[i] = x^(i+10) mod g(x)` as the spec lists it (R212). -/
def syndromeTable : List Nat :=
  [441, 882, 861, 771, 959, 711, 55, 110, 220, 440, 880, 857, 779] ++
  [943, 743, 119, 238, 476, 952, 713, 43, 86, 172, 344, 688, 217]

/-- The XOR of `T[i]` over the set bits `i` of `m` (R212). -/
def tableSyndrome (m : Nat) : BitVec 10 :=
  BitVec.ofNat 10 ((List.range 26).foldl (fun v i => if m.testBit i then v ^^^ syndromeTable.getD i 0 else v) 0)

/-- The 104-bit window of the stream at position `p` (R223: `BITS[p .. p+103]`). -/
def windowAt (bits : List Bool) (p : Nat) : BitVec 104 := BitVec.ofNat 104 (bitsVal ((bits.drop p).take 104))

/-- The groups of a finite bit sequence in the batch form (R223): every position with enough labels, in
increasing order. -/
def batchGroups (c : Cfg) (bits : List Bool) : List GMap :=
  ((List.range (bits.length + 1 - 104)).map fun p => (candidate (windowAt bits p)).map p).filter (reportable c)

end Sys2Proof.Machine
end

