-- ==== Sys2Proof/Certificates/Slice0/Obligations.lean ====
section
/-! DEFINITION. The statements for the provers, in the order of OBLIGATIONS.json: the port events, the operations of
each stage with the whole next state, the encodings, and the rules about the machine as a whole. -/

open Sys2Proof Sys2Proof.Machine

/-! ## Port events -/

/-- R287, with the reset columns of R21 to R27, the derived parameters of R8 and R340 step 2, and the legality of R9
(no other constraint of R8 is checked, notes/assumptions/13.md). That an illegal configuration leaves every element
but `refused` alone is the model's reading of R340 step 1, notes/assumptions/8.md. -/
def Obligations.ResetTakesEveryElementToItsResetValue : Prop :=
  (∀ c : Cfg,
    let d1 : Int := ⌊c.fsIn / c.bw⌋
    let mpx : Scalar := c.fsIn / d1
    let d2 : Int := ⌊mpx / 7125⌋
    (c.legal ↔ 1 ≤ d1 ∧ 1 ≤ d2 ∧ 1 ≤ c.minLabels ∧ c.minLabels ≤ 4) ∧
    (c.legal → (c.dec1 : Int) = d1 ∧ c.fsMpx = mpx ∧ (c.dec2 : Int) = d2)) ∧
  (∀ (v : BitVec 3) (z : Cplx) (b : Bool), v.getLsbD 2 = true → decode (.strobes v z b) = .ok .reset) ∧
  (∀ s : State, s.cfgIn.legal →
    exec .reset s = .next
      { s with
        demod := { bpf1 := s.cfgIn.bpf1.cplxInit, theta1 := 0, n1 := 0, vPrev := ⟨0, 0⟩ }
        pll :=
          { phi := 0, fEst := 57000, lpfI := s.cfgIn.lpfIq.realInit, lpfQ := s.cfgIn.lpfIq.realInit,
            lpfErr := s.cfgIn.lpfErr.realInit }
        sync :=
          { n2 := 0, clkOff := 0, prevBb := 0, prevLo := .plus, acc := 0, prevAcc := 0, err0 := 0, err1 := 0,
            frame := false, hsCnt := 0 }
        diff := { dPrev := false, dValid := false }
        bsync := { win := 0, nbits := 0 }
        station :=
          { pi := 0, piValid := false, pty := 0, ptyValid := false, name := Vector.replicate 8 0x5F,
            rt := Vector.replicate 64 0x5F }
        flags := { fltConfig := false, fltProto := false, refused := false }
        cfg := s.cfgIn
        cfgOk := true }) ∧
  (∀ s : State, ¬ s.cfgIn.legal →
    ∃ t : State, exec .reset s = .next t ∧
      t = { s with flags := { s.flags with refused := true }, cfgOk := false } ∧
      ∀ (z : Cplx) (b : Bool), ∀ i ∈ [Instr.sample z, .bit b, .idle, .strobeReserved], exec i t = .next t)

/-- R288: SAMPLE is DEMOD.STEP in a state that accepts events. -/
def Obligations.SampleRunsTheDemodulator : Prop :=
  ∀ (z : Cplx) (s : State), s.accepting →
    ∃ t : State, exec (.demodStep z) s = .next t ∧ exec (.sample z) s = .next t ∧
      t.flags = s.flags ∧ t.cfg = s.cfg ∧ t.cfgIn = s.cfgIn ∧ t.cfgOk = s.cfgOk ∧ t.inputs = s.inputs

/-- R289 in a state that accepts events. -/
def Obligations.BitGoesStraightToTheScanner : Prop :=
  ∀ (b : Bool) (s : State), s.accepting →
    ∃ t : State, exec (.bsyncShift b) s = .next t ∧ exec (.bit b) s = .next t ∧
      t.demod = s.demod ∧ t.pll = s.pll ∧ t.sync = s.sync ∧ t.diff = s.diff ∧ t.flags = s.flags ∧
      t.cfg = s.cfg ∧ t.cfgIn = s.cfgIn ∧ t.cfgOk = s.cfgOk ∧ t.inputs = s.inputs ∧
      t.bsync.nbits = s.bsync.nbits + 1 ∧
      ((t.out = s.out ∧ t.station = s.station) ∨
        ∃ m : GMap, t.out = s.out ++ [.group m t.station] ∧ m.pos + 104 = t.bsync.nbits)

/-- R290: no IDLE changes a state that accepts events; `out` holds the (empty) output of the last one. -/
def Obligations.IdleChangesNothing : Prop :=
  ∀ s : State, s.accepting →
    exec .idle s = .next s ∧
    ∀ (n : Nat) (z : Cplx) (b : Bool),
      runInputs (List.replicate (n + 1) (.strobes 0b000#3 z b)) s = some ({ s with out := [] }, [])

/-- R285 in a state that accepts events. -/
def Obligations.ReservedStrobeSetsOnlyTheMark : Prop :=
  (∀ (z : Cplx) (b : Bool), decode (.strobes 0b011#3 z b) = .ok .strobeReserved) ∧
  ∀ s : State, s.accepting →
    exec .strobeReserved s = .next { s with flags := { s.flags with refused := true } }

/-- R217, R301: the length error comes before any computation, sets its flag, and every later event but RESET is
ignored. The error is handed on in `result` (notes/assumptions/7.md), the flag is set by the call run on its own
(notes/assumptions/10.md), and the events are ignored in their meanings (notes/assumptions/11.md): the model's
choices. -/
def Obligations.WrongWindowLengthStopsTheBlock : Prop :=
  ∀ (m mlen : Nat) (s : State), mlen ≠ 16 → mlen ≠ 26 →
    ∃ t : State, exec (.syndrome m mlen) s = .next t ∧
      t = { s with flags := { s.flags with fltConfig := true }, result := .error .configurationError } ∧
      (s.cfgOk = true →
        ∀ (z : Cplx) (b : Bool), ∀ i ∈ [Instr.sample z, .bit b, .idle, .strobeReserved], exec i t = .next t)

/-! ## Stage 1

A value of R47 that an operation hands on stands in `result`, notes/assumptions/7.md. -/

/-- R132. -/
def Obligations.DemodFiltStepsTheBandFilter : Prop :=
  ∀ (z : Cplx) (s : State),
    exec (.demodFilt z) s = .next
      { s with
        demod := { s.demod with bpf1 := (s.cfg.bpf1.cplxStep s.demod.bpf1 z).1 }
        result := .cplx (s.cfg.bpf1.cplxStep s.demod.bpf1 z).2 }

/-- R133: the phasor is read before it advances, and its phase stays in `[0, 2π)`. -/
def Obligations.DemodMixRotatesThenAdvances : Prop :=
  ∀ (u : Cplx) (s : State),
    let c := s.cfg.num.cos s.demod.theta1
    let d := s.cfg.num.sin s.demod.theta1
    let next := fmodp (s.demod.theta1 + 2 * s.cfg.num.pi * s.cfg.fOffset / s.cfg.fsIn) (2 * s.cfg.num.pi)
    exec (.demodMix u) s = .next
      { s with
        demod := { s.demod with theta1 := next }
        result := .cplx ⟨u.re * c + u.im * d, u.im * c - u.re * d⟩ } ∧
    0 ≤ next ∧ next < 2 * s.cfg.num.pi

/-- R134: counted from `n1 = 0`, the samples kept are number 0, DEC1, 2·DEC1, and so on. -/
def Obligations.DemodDecimKeepsEveryDec1thSample : Prop :=
  (∀ s : State,
    exec .demodDecim s = .next
      { s with
        demod := { s.demod with n1 := (s.demod.n1 + 1) % s.cfg.dec1 }
        result := .keep (decide (s.demod.n1 = 0)) }) ∧
  ∀ (k : Nat) (s : State), 1 ≤ s.cfg.dec1 → s.demod.n1 = 0 →
    ∃ t : State, runInstrs (List.replicate (k + 1) .demodDecim) s = some t ∧
      t.demod.n1 = (k + 1) % s.cfg.dec1 ∧ t.result = .keep (decide (k % s.cfg.dec1 = 0))

/-- R135: the angle against the previous kept sample; 0 where that product is 0. -/
def Obligations.DemodDiscMeasuresThePhaseStep : Prop :=
  ∀ (v : Cplx) (s : State),
    let p := s.demod.vPrev
    let w : Cplx := ⟨v.re * p.re + v.im * p.im, v.im * p.re - v.re * p.im⟩
    exec (.demodDisc v) s = .next
      { s with demod := { s.demod with vPrev := v }, result := .real (s.cfg.fmGain * s.cfg.num.arg w) } ∧
    (w = ⟨0, 0⟩ → s.cfg.num.arg w = 0)

/-- R136: filter and mixer run on every sample, the discriminator and PLL.STEP on the kept ones. -/
def Obligations.DemodStepRunsItsPartsInOrder : Prop :=
  ∀ (z : Cplx) (s : State),
    let r := s.cfg.bpf1.cplxStep s.demod.bpf1 z
    let v : Cplx :=
      r.2.mul ⟨s.cfg.num.cos s.demod.theta1, -(s.cfg.num.sin s.demod.theta1)⟩
    let s1 : State :=
      { s with demod :=
          { s.demod with
            bpf1 := r.1
            theta1 := fmodp (s.demod.theta1 + 2 * s.cfg.num.pi * s.cfg.fOffset / s.cfg.fsIn) (2 * s.cfg.num.pi)
            n1 := (s.demod.n1 + 1) % s.cfg.dec1 } }
    (s.demod.n1 ≠ 0 → exec (.demodStep z) s = .next s1) ∧
    (s.demod.n1 = 0 →
      ∃ t : State,
        exec (.pllStep (s.cfg.fmGain * s.cfg.num.arg (v.mul s.demod.vPrev.conj)))
          { s1 with demod := { s1.demod with vPrev := v } } = .next t ∧
        exec (.demodStep z) s = .next t)

/-! ## Stage 2 -/

/-- R151: the phase is not reduced. -/
def Obligations.PllNcoAdvancesThePhase : Prop :=
  ∀ s : State,
    exec .pllNco s = .next
      { s with pll := { s.pll with phi := s.pll.phi + 2 * s.cfg.num.pi * s.pll.fEst / s.cfg.fsMpx } }

/-- R152: the cosine product is the in-phase arm. -/
def Obligations.PllMixFiltersBothArms : Prop :=
  ∀ (y : Scalar) (s : State),
    let i := s.cfg.lpfIq.realStep s.pll.lpfI (y * s.cfg.num.cos s.pll.phi)
    let q := s.cfg.lpfIq.realStep s.pll.lpfQ (y * s.cfg.num.sin s.pll.phi)
    exec (.pllMix y) s = .next
      { s with pll := { s.pll with lpfI := i.1, lpfQ := q.1 }, result := .arms i.2 q.2 }

/-- R153. -/
def Obligations.PllErrFiltersTheProduct : Prop :=
  ∀ (iBb qBb : Scalar) (s : State),
    let e := s.cfg.lpfErr.realStep s.pll.lpfErr (iBb * qBb)
    exec (.pllErr iBb qBb) s = .next { s with pll := { s.pll with lpfErr := e.1 }, result := .real e.2 }

/-- R154: the frequency correction has half the gain of the phase correction. -/
def Obligations.PllFeedbackCorrectsPhaseAndFrequency : Prop :=
  ∀ (e : Scalar) (s : State),
    exec (.pllFeedback e) s = .next
      { s with pll :=
          { s.pll with
            phi := s.pll.phi - s.cfg.pllBeta * e
            fEst := s.pll.fEst - s.cfg.pllBeta / 2 * e } }

/-- R155: strictly outside the band the frequency estimate is put back to 57000, and nothing else changes. -/
def Obligations.PllSnapBoundsTheFrequency : Prop :=
  ∀ s : State,
    let f := if s.pll.fEst > 57012 ∨ s.pll.fEst < 56988 then 57000 else s.pll.fEst
    exec .pllSnap s = .next { s with pll := { s.pll with fEst := f } } ∧ 56988 ≤ f ∧ f ≤ 57012

/-- R157: a call with the counter at 0 is a tick. -/
def Obligations.PllTickcntFiresEveryDec2thCall : Prop :=
  ∀ (iBb : Scalar) (s : State),
    let s1 : State := { s with sync := { s.sync with n2 := (s.sync.n2 + 1) % s.cfg.dec2 } }
    (s.sync.n2 ≠ 0 → exec (.pllTickcnt iBb) s = .next s1) ∧
    (s.sync.n2 = 0 →
      ∃ t : State, exec (.syncTick iBb) s1 = .next t ∧ exec (.pllTickcnt iBb) s = .next t)

/-- R150, R156: NCO, mixer, error, feedback, snap, and the tick counter on the in-phase arm. -/
def Obligations.PllStepRunsItsPartsInOrder : Prop :=
  ∀ (y : Scalar) (s : State),
    let phi := s.pll.phi + 2 * s.cfg.num.pi * s.pll.fEst / s.cfg.fsMpx
    let i := s.cfg.lpfIq.realStep s.pll.lpfI (y * s.cfg.num.cos phi)
    let q := s.cfg.lpfIq.realStep s.pll.lpfQ (y * s.cfg.num.sin phi)
    let e := s.cfg.lpfErr.realStep s.pll.lpfErr (i.2 * q.2)
    let f := s.pll.fEst - s.cfg.pllBeta / 2 * e.2
    let s1 : State :=
      { s with pll :=
          { phi := phi - s.cfg.pllBeta * e.2
            fEst := if f > 57012 ∨ f < 56988 then 57000 else f
            lpfI := i.1
            lpfQ := q.1
            lpfErr := e.1 } }
    ∃ t : State, exec (.pllTickcnt i.2) s1 = .next t ∧ exec (.pllStep y) s = .next t ∧ t.pll = s1.pll ∧
      t.demod = s.demod

/-! ## Stage 3 -/

/-- R171: clock, adjustment, integration, dump, and then the two remembered values. -/
def Obligations.SyncTickRunsItsPartsInOrder : Prop :=
  ∀ (bb : Scalar) (s : State),
    let cphi := s.pll.phi / 48 + s.sync.clkOff
    let lo := if fmodp cphi (2 * s.cfg.num.pi) < s.cfg.num.pi then Sign.plus else Sign.minus
    ∃ s1 s2 : State,
      exec (.syncAdj bb cphi) s = .next s1 ∧
      exec (.syncDump lo) { s1 with sync := { s1.sync with acc := s1.sync.acc + bb * lo.toScalar } } = .next s2 ∧
      exec (.syncTick bb) s = .next { s2 with sync := { s2.sync with prevLo := lo, prevBb := bb } }

/-- R172: the clock is `+1` in the first half turn. -/
def Obligations.SyncClockIsTheSignOfTheHalfTurn : Prop :=
  ∀ s : State,
    let cphi := s.pll.phi / 48 + s.sync.clkOff
    let lo := if fmodp cphi (2 * s.cfg.num.pi) < s.cfg.num.pi then Sign.plus else Sign.minus
    exec .syncClock s = .next { s with result := .clock cphi lo }

/-- R174: at a sign transition the offset moves against the wrapped phase, which lies in `[-π/2, π/2)`. -/
def Obligations.SyncAdjMovesTheOffsetAgainstTheError : Prop :=
  ∀ (bb cphi : Scalar) (s : State),
    let d0 := fmodp cphi s.cfg.num.pi
    let d := if d0 ≥ s.cfg.num.pi / 2 then d0 - s.cfg.num.pi else d0
    (sgn bb ≠ sgn s.sync.prevBb →
      exec (.syncAdj bb cphi) s = .next { s with sync := { s.sync with clkOff := s.sync.clkOff - s.cfg.clkGain * d } }) ∧
    (sgn bb = sgn s.sync.prevBb → exec (.syncAdj bb cphi) s = .next s) ∧
    -(s.cfg.num.pi / 2) ≤ d ∧ d < s.cfg.num.pi / 2

/-- R175. -/
def Obligations.SyncIntegAddsWithTheClockSign : Prop :=
  ∀ (bb : Scalar) (s : State),
    exec (.syncInteg bb .plus) s = .next { s with sync := { s.sync with acc := s.sync.acc + bb } } ∧
    exec (.syncInteg bb .minus) s = .next { s with sync := { s.sync with acc := s.sync.acc - bb } }

/-- R176: only a clock transition dumps. -/
def Obligations.SyncDumpFiresOnAClockTransition : Prop :=
  ∀ (lo : Sign) (s : State),
    (lo = s.sync.prevLo → exec (.syncDump lo) s = .next s) ∧
    (lo ≠ s.sync.prevLo →
      ∃ t : State, exec (.syncHalfsym s.sync.acc) s = .next t ∧
        exec (.syncDump lo) s = .next { t with sync := { t.sync with acc := 0 } })

/-- R178, R179, R180, R181, R182: error, symbol, previous value, count, and frame selection at the wrap. -/
def Obligations.SyncHalfsymDecides : Prop :=
  ∀ (a : Scalar) (s : State),
    let k := decide (s.sync.hsCnt % 2 = 1)
    let bad := decide (sgn a ≠ sgn s.sync.prevAcc)
    let y1 : Sync :=
      { s.sync with
        err0 := if bad && !k then s.sync.err0 + 1 else s.sync.err0
        err1 := if bad && k then s.sync.err1 + 1 else s.sync.err1 }
    let sym := decide (0 ≤ a + s.sync.prevAcc)
    let y2 : Sync := { y1 with prevAcc := a, hsCnt := (s.sync.hsCnt + 1) % 800 }
    ∃ s1 s2 : State,
      (k ≠ s.sync.frame → s1 = { s with sync := y1 }) ∧
      (k = s.sync.frame →
        exec (.diffStep sym) { s with sync := y1, out := s.out ++ [.sym sym] } = .next s1) ∧
      (y2.hsCnt ≠ 0 → s2 = { s1 with sync := y2 }) ∧
      (y2.hsCnt = 0 → exec .syncFramesel { s1 with sync := y2 } = .next s2) ∧
      exec (.syncHalfsym a) s = .next s2

/-- R183: strictly fewer errors switch the frame, and both counters go to 0. -/
def Obligations.SyncFrameselSwitchesToTheBetterParity : Prop :=
  ∀ s : State,
    let own := if s.sync.frame then s.sync.err1 else s.sync.err0
    let other := if s.sync.frame then s.sync.err0 else s.sync.err1
    exec .syncFramesel s = .next
      { s with sync :=
          { s.sync with frame := if other < own then !s.sync.frame else s.sync.frame, err0 := 0, err1 := 0 } }

/-! ## Stage 4 -/

/-- R201: every raw symbol but the first gives one logical bit. -/
def Obligations.DiffStepEmitsTheXorOfTwoSymbols : Prop :=
  ∀ (x : Bool) (s : State),
    (s.diff.dValid = false → exec (.diffStep x) s = .next { s with diff := { dPrev := x, dValid := true } }) ∧
    (s.diff.dValid = true →
      ∃ t : State,
        exec (.bsyncShift (x ^^ s.diff.dPrev)) { s with out := s.out ++ [.bit (x ^^ s.diff.dPrev)] } = .next t ∧
        exec (.diffStep x) s = .next { t with diff := { dPrev := x, dValid := true } })

/-- R202: complementing the symbols changes no output and no other state. -/
def Obligations.ComplementedSymbolsGiveTheSameBits : Prop :=
  ∀ (xs : List Bool) (s t : State),
    runInstrs (xs.map .diffStep) s = some t →
    runInstrs (xs.map fun x => .diffStep (!x)) { s with diff := { s.diff with dPrev := !s.diff.dPrev } } =
      some { t with diff := { t.diff with dPrev := !t.diff.dPrev } }

/-- R203: the recursive encoder is undone, whatever the first symbol. -/
def Obligations.DifferentialRoundTrip : Prop :=
  ∀ (e0 : Bool) (ts : List Bool) (s : State), s.diff.dValid = false →
    ∃ t : State, runInstrs ((e0 :: diffEncode e0 ts).map .diffStep) s = some t ∧
      tapBits t.out = tapBits s.out ++ ts

/-! ## Stage 5 -/

/-- R212, R213: the syndrome is the XOR of the table's entries, so it is linear. -/
def Obligations.SyndromeIsTheXorOfTheTable : Prop :=
  ∀ s : State,
    (∀ m : Nat, m < 2 ^ 26 → exec (.syndrome m 26) s = .next { s with result := .syndrome (tableSyndrome m) }) ∧
    (∀ m : Nat, m < 2 ^ 16 → exec (.syndrome m 16) s = .next { s with result := .syndrome (tableSyndrome m) }) ∧
    (∀ d : Word16, exec (.crc16 d) s = .next { s with result := .syndrome (tableSyndrome d.toNat) }) ∧
    (∀ m n : Nat, tableSyndrome (m ^^^ n) = tableSyndrome m ^^^ tableSyndrome n)

/-- R94, R215: the five codes and no other value have a label, and each SYN row is its label. -/
def Obligations.ClassifyReturnsTheLabelOfTheSyndrome : Prop :=
  ∀ s : State,
    (∀ k : Block26,
      let c := (tableSyndrome k.toNat).toNat
      let l : Option Label :=
        if c = 383 then some .A else if c = 14 then some .B else if c = 303 then some .C
        else if c = 663 then some .D else if c = 748 then some .Cp else none
      exec (.classify k) s = .next { s with result := .label l }) ∧
    exec .synA s = .next { s with result := .label (some .A) } ∧
    exec .synB s = .next { s with result := .label (some .B) } ∧
    exec .synC s = .next { s with result := .label (some .C) } ∧
    exec .synD s = .next { s with result := .label (some .D) } ∧
    exec .synCp s = .next { s with result := .label (some .Cp) }

/-- R95, R214: a block has label X exactly if its check word is the CRC of its data word XOR the offset word. -/
def Obligations.LabelIsTheOffsetWordOfTheCheck : Prop :=
  ∀ (k : Block26) (l : Label), classify k = some l ↔ blockCheck k = crc16 (blockData k) ^^^ offsetWord l

/-- R216: what one and two flipped bits do to a labelled block. -/
def Obligations.FlippedBitsAreDetectedWithTheListedExceptions : Prop :=
  ∀ (k : Block26) (l : Label), classify k = some l →
    (∀ i : Nat, i < 26 →
      classify (k ^^^ BitVec.twoPow 26 i) =
        (if i = 18 ∧ l = .C then some .D else if i = 18 ∧ l = .D then some .C else none)) ∧
    (∀ i j : Nat, i < j → j < 26 → ∀ l' : Label,
      (classify (k ^^^ BitVec.twoPow 26 i ^^^ BitVec.twoPow 26 j) = some l' ↔
        (i, j, l, l') ∈
          [(10, 12, Label.D, Label.Cp), (10, 12, .Cp, .D), (18, 19, .A, .B), (18, 19, .B, .A), (18, 20, .A, .Cp),
            (18, 20, .Cp, .A), (19, 20, .B, .Cp), (19, 20, .Cp, .B), (23, 24, .A, .D), (23, 24, .D, .A)]))

/-- R218: the oldest bit falls out, and from the 104th bit on every bit is scanned. -/
def Obligations.BsyncShiftAppendsTheBit : Prop :=
  ∀ (b : Bool) (s : State),
    let s1 : State :=
      { s with bsync := { win := s.bsync.win.setWidth 103 ++ BitVec.ofBool b, nbits := s.bsync.nbits + 1 } }
    (s.bsync.nbits + 1 < 104 → exec (.bsyncShift b) s = .next s1) ∧
    (104 ≤ s.bsync.nbits + 1 →
      ∃ t : State, exec .bsyncScan s1 = .next t ∧ exec (.bsyncShift b) s = .next t)

/-- R219, R220, R221: the four independent tests, and the report. With fewer than 104 bits the scan, run on its
own, is refused: the model's use of R64's permission, notes/assumptions/14.md. -/
def Obligations.BsyncScanReportsEnoughLabels : Prop :=
  ∀ s : State,
    let w := s.bsync.win
    let pA := decide (classify (w.extractLsb' 78 26) = some .A)
    let pB := decide (classify (w.extractLsb' 52 26) = some .B)
    let pC := decide (classify (w.extractLsb' 26 26) = some .C)
    let pD := decide (classify (w.extractLsb' 0 26) = some .D)
    let n := pA.toNat + pB.toNat + pC.toNat + pD.toNat
    (s.bsync.nbits < 104 → exec .bsyncScan s = .refused .streamOutOfRange) ∧
    (104 ≤ s.bsync.nbits → n < s.cfg.minLabels → exec .bsyncScan s = .next s) ∧
    (104 ≤ s.bsync.nbits → s.cfg.minLabels ≤ n →
      ∃ t : State, exec (.grpDecode (s.bsync.nbits - 104) pA pB pC pD) s = .next t ∧ exec .bsyncScan s = .next t)

/-! ## Stage 6 -/

/-- R241, R246, R247, R248: a group is decoded from the first 16 bits of each present block; without block B no arm
runs. That the row of block B's word is the whole reported group is the model's choice, notes/assumptions/9.md. A
present word with a bit that the window does not yet or no longer hold is refused: the model's use of R64's
permission, notes/assumptions/14.md. -/
def Obligations.GrpDecodeDispatchesOnBlockB : Prop :=
  (∀ (pos : Nat) (pA pB pC pD : Bool) (s : State),
    let held : Nat → Prop := fun off => off + 16 ≤ s.bsync.nbits ∧ s.bsync.nbits ≤ off + 104
    let word : Nat → Word16 := fun off => s.bsync.win.extractLsb' (s.bsync.nbits - off - 16) 16
    let allHeld : Prop :=
      (pA = true → held pos) ∧ (pB = true → held (pos + 26)) ∧ (pC = true → held (pos + 52)) ∧
        (pD = true → held (pos + 78))
    let a := if pA then some (word pos) else none
    let c := if pC then some (word (pos + 52)) else none
    let d := if pD then some (word (pos + 78)) else none
    let st : Station := { s.station with pi := a.getD s.station.pi, piValid := pA || s.station.piValid }
    (allHeld → pB = true →
      ∃ t : State, exec (decodeWordB (word (pos + 26)) ⟨pos, a, c, d⟩) s = .next t ∧
        exec (.grpDecode pos pA pB pC pD) s = .next t) ∧
    (allHeld → pB = false →
      exec (.grpDecode pos pA pB pC pD) s = .next
        { s with station := st, out := s.out ++ [.group ⟨pos, pA, pB, pC, pD⟩ st] }) ∧
    (¬ allHeld → exec (.grpDecode pos pA pB pC pD) s = .refused .streamOutOfRange)) ∧
  ∀ s : State, 104 ≤ s.bsync.nbits →
    let pos := s.bsync.nbits - 104
    let w := s.bsync.win
    readGroup s.bsync pos true true true true =
      some ⟨some (w.extractLsb' 88 16), some (w.extractLsb' 62 16), some (w.extractLsb' 36 16),
        some (w.extractLsb' 10 16)⟩

/-- R242, R243, R244: block A gives the PI; block B gives its fields and the program type, and no ProtocolError. -/
def Obligations.BlockDecodersSetPiAndPty : Prop :=
  (∀ (w : Word16) (s : State),
    exec (.grpDecA w) s = .next { s with station := { s.station with pi := w, piValid := true } }) ∧
  ∀ (gt : BitVec 4) (ver ta : Bool) (pty tail : BitVec 5) (s : State),
    exec (.grpDecB (gt ++ BitVec.ofBool ver ++ BitVec.ofBool ta ++ pty ++ tail)) s = .next
      { s with station := { s.station with pty := pty, ptyValid := true }, result := .wordB gt ver ta pty tail }

/-- R100, R245. -/
def Obligations.GrpDecCdSplitsTheWord : Prop :=
  ∀ (c0 c1 : Byte) (s : State), exec (.grpDecCd (c0 ++ c1)) s = .next { s with result := .chars c0 c1 }

/-- R249 for a whole reported group (R242, R243, R257), which is what the row means in the model,
notes/assumptions/9.md: the characters of block D at `2·seg`, and no other character
of either buffer changes. -/
def Obligations.Group0AWritesTheNameSlot : Prop :=
  ∀ (ta : Bool) (pty : BitVec 5) (unused : BitVec 3) (seg : BitVec 2) (g : GroupRest) (s : State),
    ∃ st : Station,
      exec (.group0A ta pty unused seg g) s = .next
        { s with
          station := st
          out := s.out ++ [.group ⟨g.pos, g.a.isSome, true, g.c.isSome, g.d.isSome⟩ st] } ∧
      st.pi = g.a.getD s.station.pi ∧ st.piValid = (g.a.isSome || s.station.piValid) ∧
      st.pty = pty ∧ st.ptyValid = true ∧ st.rt = s.station.rt ∧
      (g.d = none → st.name = s.station.name) ∧
      ∀ (c0 c1 : Byte), g.d = some (c0 ++ c1) → ∀ j : Fin 8,
        st.name.get j =
          if j.val = 2 * seg.toNat then c0 else if j.val = 2 * seg.toNat + 1 then c1 else s.station.name.get j

/-- R250, R251, R253 for a whole reported group, which is what the row means in the model, notes/assumptions/9.md: the clear needs block B only, then each pair of characters
needs its own block, and every other character is FILL after a clear and unchanged otherwise. -/
def Obligations.Group2AClearsThenWritesTheText : Prop :=
  ∀ (ta : Bool) (pty : BitVec 5) (ab : Bool) (seg : BitVec 4) (g : GroupRest) (s : State),
    ∃ st : Station,
      exec (.group2A ta pty ab seg g) s = .next
        { s with
          station := st
          out := s.out ++ [.group ⟨g.pos, g.a.isSome, true, g.c.isSome, g.d.isSome⟩ st] } ∧
      st.pi = g.a.getD s.station.pi ∧ st.piValid = (g.a.isSome || s.station.piValid) ∧
      st.pty = pty ∧ st.ptyValid = true ∧ st.name = s.station.name ∧
      (∀ j : Fin 64, j.val < 4 * seg.toNat ∨ 4 * seg.toNat + 4 ≤ j.val →
        st.rt.get j = if ab then 0x5F else s.station.rt.get j) ∧
      (∀ j : Fin 64, j.val = 4 * seg.toNat ∨ j.val = 4 * seg.toNat + 1 →
        (g.c = none → st.rt.get j = if ab then 0x5F else s.station.rt.get j) ∧
        ∀ c0 c1 : Byte, g.c = some (c0 ++ c1) → st.rt.get j = if j.val = 4 * seg.toNat then c0 else c1) ∧
      (∀ j : Fin 64, j.val = 4 * seg.toNat + 2 ∨ j.val = 4 * seg.toNat + 3 →
        (g.d = none → st.rt.get j = if ab then 0x5F else s.station.rt.get j) ∧
        ∀ c0 c1 : Byte, g.d = some (c0 ++ c1) → st.rt.get j = if j.val = 4 * seg.toNat + 2 then c0 else c1)

/-- R252 for a whole reported group, which is what the row means in the model, notes/assumptions/9.md: PI and PTY are updated, the text buffers are not. -/
def Obligations.OtherGroupsLeaveTheTextAlone : Prop :=
  ∀ (ta : Bool) (pty tail : BitVec 5) (g : GroupRest) (s : State), ∀ i ∈ Instr.otherGroups ta pty tail g,
    let st : Station :=
      { s.station with
        pi := g.a.getD s.station.pi
        piValid := g.a.isSome || s.station.piValid
        pty := pty
        ptyValid := true }
    exec i s = .next
      { s with
        station := st
        out := s.out ++ [.group ⟨g.pos, g.a.isSome, true, g.c.isSome, g.d.isSome⟩ st] }

/-- R104, R247: the table's row of a block-B word and GRP.DECODE's dispatch agree on every word. That the row means
the whole reported group is the model's choice, notes/assumptions/9.md. -/
def Obligations.TableRowsAgreeWithTheDispatch : Prop :=
  ∀ (w : Word16) (g : GroupRest) (s : State),
    exec (decodeWordB w g) s = .next (grpDecode g.pos ⟨g.a, some w, g.c, g.d⟩ s)

/-- R258 with the rendering of the test vectors (D34), notes/assumptions/15.md. -/
def Obligations.PiHexRendersFourDigits : Prop :=
  ∀ (a b c d : BitVec 4) (s : State),
    let digit : BitVec 4 → Char := fun n => "0123456789ABCDEF".toList.getD n.toNat ' '
    exec (.piHex true (a ++ b ++ c ++ d)) s = .next { s with result := .text [digit a, digit b, digit c, digit d] } ∧
    exec (.piHex false (a ++ b ++ c ++ d)) s = .next { s with result := .text "----".toList }

/-- R259, R302: absent and 0 are "None", 31 is "Alarm", 1 to 30 are the configuration's, 32 and above a
ProtocolError that leaves the station state alone. That the function run on its own sets `flt_proto` is the model's
reading of R300, notes/assumptions/10.md. -/
def Obligations.PtyNameLooksUpOrRejects : Prop :=
  ∀ s : State,
    exec (.ptyName none) s = .next { s with result := .text "None".toList } ∧
    exec (.ptyName (some 0)) s = .next { s with result := .text "None".toList } ∧
    exec (.ptyName (some 31)) s = .next { s with result := .text "Alarm".toList } ∧
    (∀ k : Fin 30, exec (.ptyName (some (k.val + 1))) s = .next { s with result := .text (s.cfg.ptyNames.get k) }) ∧
    (∀ c : Nat, 32 ≤ c →
      exec (.ptyName (some c)) s = .next
        { s with flags := { s.flags with fltProto := true }, result := .error .protocolError })

/-! ## Encodings -/

/-- Words written out from R91, R94, R96 and the vectors of 95_test_vectors.md decode to what they stand for. -/
def Obligations.WrittenOutWordsDecode : Prop :=
  decode (.strobes 0b010#3 ⟨1, 0⟩ true) = .ok (.sample ⟨1, 0⟩) ∧
  decode (.strobes 0b001#3 ⟨1, 0⟩ true) = .ok (.bit true) ∧
  decode (.strobes 0b111#3 ⟨1, 0⟩ true) = .ok .reset ∧
  decode (.synCode 0b0101111111#10) = .ok .synA ∧
  decode (.synCode 0b1011101100#10) = .ok .synCp ∧
  decode (.synCode 0b0000000000#10) = .error .notASyndromeCode ∧
  decode (.wordB 0b0010010000110111#16 default) = .ok (.group2A true 1 true 7 default) ∧
  decode (.wordB 0b0000000000111101#16 default) = .ok (.group0A false 1 7 1 default) ∧
  decode (.wordB 0b0100011111100000#16 default) = .ok (.group4A true 31 0 default)

/-- R91, R94, R96, R104: every instruction with a word is read back from it, with every operand. -/
def Obligations.DecodeUndoesEncode : Prop :=
  ∀ (i : Instr) (x : Input), encode i = some x → decode x = .ok i

/-- R91, R94, R96: every SYN and WORD_B word that decodes is the word of its instruction, and so is a strobe vector
with `rst = 0` up to the operand it ignores: no bit is dropped. -/
def Obligations.EncodeUndoesDecode : Prop :=
  (∀ (w : Word16) (g : GroupRest), encode (decodeWordB w g) = some (.wordB w g)) ∧
  (∀ (c : BitVec 10) (i : Instr), decode (.synCode c) = .ok i → encode i = some (.synCode c)) ∧
  (∀ (v : BitVec 3) (z : Cplx) (b : Bool), v.getLsbD 2 = false →
    ∃ (z' : Cplx) (b' : Bool), encode (decodeStrobe v z b) = some (.strobes v z' b') ∧
      (v.getLsbD 1 = true → v.getLsbD 0 = false → z' = z) ∧ (v.getLsbD 1 = false → v.getLsbD 0 = true → b' = b))

/-! ## The machine as a whole -/

/-- R281, R286: a step takes the next input, empties the event list, and is exec of the decoded instruction; with
nothing presented it is IDLE (the model's choice, notes/assumptions/5.md). A 10-bit value that is no syndrome code is a
SyncMiss: label none, and no element of the state changes (R303). -/
def Obligations.StepRunsTheDecodedInstruction : Prop :=
  (∀ (x : Input) (i : Instr) (s : State), decode x = .ok i → step (s.present x) = exec i { s with out := [] }) ∧
  (∀ s : State, s.inputs = [] → step s = exec .idle { s with out := [] }) ∧
  ∀ (c : BitVec 10) (s : State), c.toNat ∉ [383, 14, 303, 663, 748] →
    step (s.present (.synCode c)) = .next { s with out := [], result := .label none }

/-- R71, R281, R282: every input has a next state; a step takes exactly one input, depends on no later input and on no
output of the last event; so a queue cut anywhere into two batches gives the same state and the same output. That
the waiting events and the output stand in State is the model's choice, notes/assumptions/5.md and 16.md. -/
def Obligations.BatchBoundariesAreInvisible : Prop :=
  (∀ (x : Input) (s : State), ∃ t : State, step (s.present x) = .next t ∧ t.inputs = s.inputs ∧
    ∀ (o : List OutEvent) (q : List Input),
      step { s with out := o, inputs := x :: q } = .next { t with inputs := q }) ∧
  ∀ (xs ys : List Input) (s : State), ∃ (t u : State) (o p : List OutEvent),
    runInputs xs s = some (t, o) ∧ runInputs ys t = some (u, p) ∧
      runSteps (xs.length + ys.length) { s with inputs := xs ++ ys ++ s.inputs } = some (u, o ++ p)

/-- The invariant of R51 holds at reset, whatever the open configuration is (notes/assumptions/4.md). -/
def Obligations.ResetStateMeetsTheInvariant : Prop := State.reset.Inv

/-- R51: every step keeps the counters, the error counts and the frequency estimate in their ranges. -/
def Obligations.EveryStepKeepsTheInvariant : Prop :=
  ∀ s t : State, s.Inv → step s = .next t →
    t.Inv ∧ t.sync.err0 ≤ 400 ∧ t.sync.err1 ≤ 400 ∧ t.sync.err0 + t.sync.err1 ≤ t.sync.hsCnt

/-- R11: the laws of the primitives, with `sgn 0 = +1`. The values of `cos`, `sin` and `arg` off the axes are open in the model,
notes/assumptions/2.md. -/
def Obligations.PrimitivesObeyTheirLaws : Prop :=
  (∀ x m : Scalar, 0 < m →
    0 ≤ fmodp x m ∧ fmodp x m < m ∧ (∃ k : Int, x - fmodp x m = k * m) ∧
    ∀ r : Scalar, 0 ≤ r → r < m → (∃ k : Int, x - r = k * m) → r = fmodp x m) ∧
  (∀ x : Scalar, (sgn x = .plus ↔ 0 ≤ x) ∧ (sgn x = .minus ↔ x < 0)) ∧
  ∀ n : NumSys, 0 < n.pi ∧ n.arg ⟨0, 0⟩ = 0 ∧
    (∀ z : Cplx, -n.pi < n.arg z ∧ n.arg z ≤ n.pi) ∧
    (∀ (x : Scalar) (k : Int), n.cos (x + 2 * n.pi * k) = n.cos x ∧ n.sin (x + 2 * n.pi * k) = n.sin x)

/-- R49: reducing `phi` by `96π`, `clk_off` by `2π` or `theta1` by `2π` changes no output and nothing else. -/
def Obligations.PhaseReductionsAreInvisible : Prop :=
  ∀ (z : Cplx) (k : Int) (s : State), s.accepting →
    ∃ t : State, exec (.sample z) s = .next t ∧
      exec (.sample z) { s with pll := { s.pll with phi := s.pll.phi - 96 * s.cfg.num.pi * k } } =
        .next { t with pll := { t.pll with phi := t.pll.phi - 96 * s.cfg.num.pi * k } } ∧
      exec (.sample z) { s with sync := { s.sync with clkOff := s.sync.clkOff - 2 * s.cfg.num.pi * k } } =
        .next { t with sync := { t.sync with clkOff := t.sync.clkOff - 2 * s.cfg.num.pi * k } } ∧
      exec (.sample z) { s with demod := { s.demod with theta1 := s.demod.theta1 - 2 * s.cfg.num.pi * k } } = .next t

/-- R72: what a sample does to a stage depends on that stage and the stages before it only. -/
def Obligations.DataFlowsStrictlyForward : Prop :=
  ∀ (z : Cplx) (s s' : State), s.accepting → s'.accepting → s.cfg = s'.cfg → s.demod = s'.demod →
    ∃ t t' : State, exec (.sample z) s = .next t ∧ exec (.sample z) s' = .next t' ∧
      t.demod = t'.demod ∧
      (s.pll = s'.pll → t.pll = t'.pll ∧
        (s.sync = s'.sync → t.sync = t'.sync ∧
          (s.diff = s'.diff → t.diff = t'.diff ∧
            (s.bsync = s'.bsync → t.bsync = t'.bsync ∧
              (s.station = s'.station → t.station = t'.station)))))

/-- R286: a sample emits nothing, a symbol, a symbol and its bit, or these and a group. -/
def Obligations.SampleEmitsInOrder : Prop :=
  ∀ (z : Cplx) (s : State), s.accepting →
    ∃ (t : State) (es : List OutEvent), exec (.sample z) s = .next t ∧ t.out = s.out ++ es ∧
      (es = [] ∨ (∃ x, es = [.sym x]) ∨ (∃ x b, es = [.sym x, .bit b]) ∨
        ∃ x b m, es = [.sym x, .bit b, .group m t.station])

/-- R52: a bit changes the name only through a reported 0A group with block D, and the radio text only through
a reported 2A group. -/
def Obligations.TextChangesOnlyThroughItsGroup : Prop :=
  ∀ (b : Bool) (s t : State), exec (.bit b) s = .next t →
    (t.station.name ≠ s.station.name →
      ∃ (m : GMap) (w : Word16), t.out = s.out ++ [.group m t.station] ∧ m.presentB = true ∧ m.presentD = true ∧
        w = t.bsync.win.extractLsb' 62 16 ∧ w.extractLsb' 11 5 = 0b00000#5) ∧
    (t.station.rt ≠ s.station.rt →
      ∃ (m : GMap) (w : Word16), t.out = s.out ++ [.group m t.station] ∧ m.presentB = true ∧
        w = t.bsync.win.extractLsb' 62 16 ∧ w.extractLsb' 11 5 = 0b00100#5)

/-- R306: no operation but RESET clears a fault flag. -/
def Obligations.OnlyResetClearsAFlag : Prop :=
  ∀ (i : Instr) (s t : State), i ≠ .reset → exec i s = .next t →
    (s.flags.fltConfig = true → t.flags.fltConfig = true) ∧
    (s.flags.fltProto = true → t.flags.fltProto = true) ∧
    (s.flags.refused = true → t.flags.refused = true)

/-- R300 (codes 1 and 2), vector T60 number 3: no step sets `flt_config` or `flt_proto`. -/
def Obligations.NoStepRaisesAnError : Prop :=
  ∀ s t : State, step s = .next t →
    (t.flags.fltConfig = true → s.flags.fltConfig = true) ∧ (t.flags.fltProto = true → s.flags.fltProto = true)

/-- R223: the groups reported while the bits are shifted in one by one are those of the batch form. -/
def Obligations.ShiftedBitsReportTheBatchGroups : Prop :=
  ∀ (bits : List Bool) (s : State), s.accepting → s.bsync.nbits = 0 →
    ∃ (t : State) (o : List OutEvent), runInputs (bits.map bitEvent) s = some (t, o) ∧
      groupMaps o = batchGroups s.cfg bits ∧ t.bsync.nbits = bits.length

/-- R50: the window is the last 104 bits shifted in, oldest first. -/
def Obligations.WindowHoldsTheLast104Bits : Prop :=
  ∀ (bits : List Bool) (s : State), s.accepting → bits.length = 104 →
    ∃ (t : State) (o : List OutEvent), runInputs (bits.map bitEvent) s = some (t, o) ∧
      ∀ k : Nat, k < 104 → t.bsync.win.getLsbD (103 - k) = bits.getD k false

/-- R289 example, vector V3: 104 bits of one well-formed group after a reset give exactly one group event, at
position 0, with all four labels. -/
def Obligations.OneWellFormedGroupIsReportedOnce : Prop :=
  ∀ (c : Cfg) (a b d e : Word16), c.minLabels ≤ 4 →
    ∃ (t : State) (st : Station),
      runInputs ((Stim.group a b d e).expand) (State.s0 c) = some (t, [.group ⟨0, true, true, true, true⟩ st]) ∧
      st = t.station ∧ st.pi = a ∧ st.piValid = true ∧ st.pty = b.extractLsb' 5 5 ∧ st.ptyValid = true ∧
      t.bsync.nbits = 104 ∧ t.bsync.win = mkGroup a b d e
end

