-- ==== Sys2Proof/Laws/Arith.lean ====
section
/-! SUPPORT. The small lemmas of the analog primitives (00_scope.md R11). -/

namespace Sys2Proof

theorem fmodp_nonneg {x m : Scalar} (h : 0 < m) : 0 ≤ fmodp x m := by
  have h1 : ((x / m).floor : Scalar) ≤ x / m := Rat.floor_le _
  have h2 : m * ((x / m).floor : Scalar) ≤ x := by
    calc m * ((x / m).floor : Scalar) ≤ m * (x / m) := mul_le_mul_of_nonneg_left h1 h.le
      _ = x := by field_simp
  unfold fmodp
  linarith

theorem fmodp_lt {x m : Scalar} (h : 0 < m) : fmodp x m < m := by
  have h1 : x / m < ((x / m).floor : Scalar) + 1 := by
    have := Rat.lt_floor_add_one (x / m)
    exact_mod_cast this
  have h2 : x < m * (((x / m).floor : Scalar) + 1) := by
    calc x = m * (x / m) := by field_simp
      _ < m * (((x / m).floor : Scalar) + 1) := mul_lt_mul_of_pos_left h1 h
  unfold fmodp
  linarith

theorem fmodp_add_mul_int (x : Scalar) {m : Scalar} (h : 0 < m) (k : Int) : fmodp (x + m * k) m = fmodp x m := by
  have h1 : (x + m * k) / m = x / m + k := by field_simp
  have h2 : (x / m + k).floor = (x / m).floor + k := by
    rw [Rat.floor_add_intCast]
  unfold fmodp
  rw [h1, h2]
  push_cast
  ring

theorem fmodp_sub_mul_int (x : Scalar) {m : Scalar} (h : 0 < m) (k : Int) : fmodp (x - m * k) m = fmodp x m := by
  have := fmodp_add_mul_int x h (-k)
  rw [← this]
  push_cast
  ring_nf

theorem NumSys.pi_pos (n : NumSys) : 0 < n.pi := by
  unfold NumSys.pi
  positivity

theorem NumSys.cos_congr (n : NumSys) {x y : Scalar} (h : fmodp x (2 * n.pi) = fmodp y (2 * n.pi)) :
    n.cos x = n.cos y := by
  simp only [NumSys.cos, h]

theorem NumSys.sin_congr (n : NumSys) {x y : Scalar} (h : fmodp x (2 * n.pi) = fmodp y (2 * n.pi)) :
    n.sin x = n.sin y := by
  simp only [NumSys.sin, h]

end Sys2Proof
end

