-- ==== Sys2Proof/Laws/Codec.lean ====
section
/-! SUPPORT. Every bit of an encoded block-B word, and its fields read back (30_encoding.md R96 to R98). -/

namespace Sys2Proof

/-- The bits of the word: tail, program type, flag, selecting bits, from bit 0 up. -/
theorem encodeWordB_getLsbD (sel : BitVec 5) (ta : Bool) (pty tail : BitVec 5) (i : Nat) :
    (encodeWordB sel ta pty tail).getLsbD i =
      if i < 5 then tail.getLsbD i
      else if i < 10 then pty.getLsbD (i - 5)
      else if i = 10 then ta
      else sel.getLsbD (i - 11) := by
  show (sel ++ BitVec.ofBool ta ++ pty ++ tail : BitVec (5 + 1 + 5 + 5)).getLsbD i = _
  rw [BitVec.getLsbD_append, BitVec.getLsbD_append, BitVec.getLsbD_append]
  by_cases h1 : i < 5
  · simp only [h1, if_true]
  · by_cases h2 : i < 10
    · simp only [h1, h2, show i - 5 < 5 by omega, if_true, if_false]
    · by_cases h3 : i = 10
      · subst h3
        simp
      · simp only [h1, h2, h3, show ¬ i - 5 < 5 by omega, show ¬ i - 5 - 5 < 1 by omega, if_false]
        congr 1

@[simp] theorem wordSel_encodeWordB (sel : BitVec 5) (ta : Bool) (pty tail : BitVec 5) :
    wordSel (encodeWordB sel ta pty tail) = sel := by
  apply BitVec.eq_of_getLsbD_eq
  intro i hi
  rw [wordSel, BitVec.getLsbD_extractLsb', encodeWordB_getLsbD]
  simp [hi, show ¬ 11 + i < 5 by omega, show ¬ 11 + i < 10 by omega, show ¬ 11 + i = 10 by omega]

@[simp] theorem wordTa_encodeWordB (sel : BitVec 5) (ta : Bool) (pty tail : BitVec 5) :
    wordTa (encodeWordB sel ta pty tail) = ta := by
  rw [wordTa, encodeWordB_getLsbD]
  simp

@[simp] theorem wordPty_encodeWordB (sel : BitVec 5) (ta : Bool) (pty tail : BitVec 5) :
    wordPty (encodeWordB sel ta pty tail) = pty := by
  apply BitVec.eq_of_getLsbD_eq
  intro i hi
  rw [wordPty, BitVec.getLsbD_extractLsb', encodeWordB_getLsbD]
  simp [hi, show 5 + i < 10 by omega]

@[simp] theorem wordTail_encodeWordB (sel : BitVec 5) (ta : Bool) (pty tail : BitVec 5) :
    wordTail (encodeWordB sel ta pty tail) = tail := by
  apply BitVec.eq_of_getLsbD_eq
  intro i hi
  rw [wordTail, BitVec.getLsbD_extractLsb', encodeWordB_getLsbD]
  simp [hi]

end Sys2Proof
end

