-- ==== Sys2Proof/Laws/Crc.lean ====
section
/-! SUPPORT. The CRC register is linear (44_block_sync.md R211, R212): the syndrome of an XOR is the XOR of the
syndromes, and a window's syndrome is the XOR of those of its set bits. -/

namespace Sys2Proof.Machine

theorem shiftIn_xor (r r' : BitVec 11) (b b' : Bool) :
    ((r ^^^ r') <<< 1) ||| (BitVec.ofBool (b ^^ b')).setWidth 11 =
      ((r <<< 1) ||| (BitVec.ofBool b).setWidth 11) ^^^ ((r' <<< 1) ||| (BitVec.ofBool b').setWidth 11) := by
  ext i hi
  rcases i with _ | i
  · cases b <;> cases b' <;> simp
  · simp [BitVec.getElem_shiftLeft]

theorem crcStep_xor (r r' : BitVec 11) (b b' : Bool) :
    crcStep (r ^^^ r') (b ^^ b') = crcStep r b ^^^ crcStep r' b' := by
  unfold crcStep
  dsimp only
  rw [shiftIn_xor]
  generalize ((r <<< 1) ||| (BitVec.ofBool b).setWidth 11) = x
  generalize ((r' <<< 1) ||| (BitVec.ofBool b').setWidth 11) = y
  rw [BitVec.getLsbD_xor]
  cases hx : x.getLsbD 10 <;> cases hy : y.getLsbD 10
  · simp
  · simp [BitVec.xor_assoc]
  · simp only [Bool.xor_false, if_true]
    ext i
    simp [Bool.xor_comm, Bool.xor_left_comm]
  · simp only [Bool.xor_true, if_true]
    ext i
    simp [Bool.xor_comm, Bool.xor_left_comm]

theorem crcFold_xor (f g : Nat → Bool) (l : List Nat) (r r' : BitVec 11) :
    (l.map fun i => f i ^^ g i).foldl crcStep (r ^^^ r') =
      (l.map f).foldl crcStep r ^^^ (l.map g).foldl crcStep r' := by
  induction l generalizing r r' with
  | nil => rfl
  | cons i l ih =>
    simp only [List.map_cons, List.foldl_cons]
    rw [crcStep_xor, ih]

theorem crcZeros_xor (n : Nat) (r r' : BitVec 11) :
    (List.replicate n false).foldl crcStep (r ^^^ r') =
      (List.replicate n false).foldl crcStep r ^^^ (List.replicate n false).foldl crcStep r' := by
  induction n generalizing r r' with
  | zero => rfl
  | succ n ih =>
    simp only [List.replicate_succ, List.foldl_cons]
    rw [← ih, ← crcStep_xor]
    rfl

/-- The syndrome of an XOR is the XOR of the syndromes. -/
theorem crcBits_xor (m n len : Nat) :
    crcBits (streamBits (m ^^^ n) len) = crcBits (streamBits m len) ^^^ crcBits (streamBits n len) := by
  have e : (m ^^^ n).testBit = fun i => m.testBit i ^^ n.testBit i := by
    funext i
    exact Nat.testBit_xor ..
  have h := crcFold_xor m.testBit n.testBit (List.range len).reverse 0#11 0#11
  rw [show (0#11 ^^^ 0#11) = 0#11 from rfl] at h
  unfold crcBits streamBits
  simp only [List.foldl_append, e]
  rw [h, crcZeros_xor, BitVec.setWidth_xor]

theorem crcBits_zero (len : Nat) : crcBits (streamBits 0 len) = 0#10 := by
  have h := crcBits_xor 0 0 len
  rw [Nat.xor_self] at h
  simpa using h

/-- A window's syndrome is the XOR of the syndromes of its set bits. -/
theorem crcBits_eq_fold (len n m : Nat) (h : m < 2 ^ n) :
    crcBits (streamBits m len) =
      (List.range n).foldl (fun v i => if m.testBit i then v ^^^ crcBits (streamBits (2 ^ i) len) else v) 0#10 := by
  induction n generalizing m with
  | zero =>
    have : m = 0 := by simpa using h
    subst this
    rw [crcBits_zero]
    rfl
  | succ n ih =>
    have e : ∀ i ∈ List.range n, (m % 2 ^ n).testBit i = m.testBit i := by
      intro i hi
      rw [Nat.testBit_mod_two_pow]
      simp [List.mem_range.1 hi]
    have e2 :
        (List.range n).foldl (fun v i => if m.testBit i then v ^^^ crcBits (streamBits (2 ^ i) len) else v) 0#10 =
          crcBits (streamBits (m % 2 ^ n) len) := by
      rw [ih (m % 2 ^ n) (Nat.mod_lt _ (by positivity))]
      apply List.foldl_ext
      intro a i hi
      rw [e i hi]
    have above : ∀ j, n < j → m.testBit j = false := fun j hj =>
      Nat.testBit_lt_two_pow (lt_of_lt_of_le h (Nat.pow_le_pow_right (by norm_num) hj))
    rw [List.range_succ, List.foldl_append, e2]
    simp only [List.foldl_cons, List.foldl_nil]
    by_cases hb : m.testBit n = true
    · rw [if_pos hb, ← crcBits_xor]
      congr 2
      apply Nat.eq_of_testBit_eq
      intro j
      rw [Nat.testBit_xor, Nat.testBit_mod_two_pow, Nat.testBit_two_pow]
      rcases lt_trichotomy j n with h1 | h1 | h1
      · simp [h1, Nat.ne_of_gt h1]
      · subst h1
        simp [hb]
      · simp [above j h1, Nat.ne_of_lt h1]
    · rw [if_neg hb]
      congr 2
      apply Nat.eq_of_testBit_eq
      intro j
      rw [Nat.testBit_mod_two_pow]
      rcases lt_trichotomy j n with h1 | h1 | h1
      · simp [h1]
      · subst h1
        simp [hb]
      · simp [above j h1]

theorem syndrome26_xor (k m : Block26) : syndrome26 (k ^^^ m) = syndrome26 k ^^^ syndrome26 m := by
  unfold syndrome26
  rw [BitVec.toNat_xor, crcBits_xor]

/-- A label is one of the five codes and nothing else (R94). -/
theorem labelOfSyndrome_eq_some (c : BitVec 10) (l : Label) :
    labelOfSyndrome c = some l ↔ c = syndromeOfLabel l := by
  constructor
  · intro h
    unfold labelOfSyndrome at h
    repeat' split at h
    all_goals cases h
    all_goals assumption
  · rintro rfl
    cases l <;> rfl

/-- The window after one more bit (R218). -/
theorem pushBit_win (b : Bool) (y : Bsync) : (pushBit b y).win = y.win.setWidth 103 ++ BitVec.ofBool b := by
  unfold pushBit
  apply BitVec.eq_of_getLsbD_eq
  intro i hi
  rw [BitVec.getLsbD_or, BitVec.getLsbD_shiftLeft, BitVec.getLsbD_append, BitVec.getLsbD_setWidth,
    BitVec.getLsbD_setWidth]
  rcases i with _ | i
  · cases b <;> simp
  · have e : (BitVec.ofBool b).getLsbD (i + 1) = false := by
      apply BitVec.getLsbD_of_ge
      omega
    rw [e]
    simp [show i < 103 by omega]
    intro _
    omega

@[simp] theorem pushBit_nbits (b : Bool) (y : Bsync) : (pushBit b y).nbits = y.nbits + 1 := rfl

end Sys2Proof.Machine
end

