-- ==== Sys2Proof/Laws/PerInstr.lean ====
section
/-! SUPPORT. Statements for all instructions, one lemma a constructor. Family `Encoding`: an instruction is encoded
in the format the opcode table gives it, and a row of format NONE has no word. -/

namespace Sys2Proof.Laws.Encoding

/-- The encoded word has the table's format; an internal operation has none. -/
def Statement (i : Instr) : Prop :=
  match encode i with
  | some x => x.format = i.format
  | none => i.format = .internal

theorem reset : Statement (.reset) := rfl
theorem sample (z : Cplx) : Statement (.sample z) := rfl
theorem bit (b : Bool) : Statement (.bit b) := rfl
theorem idle : Statement (.idle) := rfl
theorem strobeReserved : Statement (.strobeReserved) := rfl
theorem synA : Statement (.synA) := rfl
theorem synB : Statement (.synB) := rfl
theorem synC : Statement (.synC) := rfl
theorem synD : Statement (.synD) := rfl
theorem synCp : Statement (.synCp) := rfl
theorem group0A (ta : Bool) (pty : BitVec 5) (unused : BitVec 3) (seg : BitVec 2) (g : GroupRest) : Statement (.group0A ta pty unused seg g) := rfl
theorem group0B (ta : Bool) (pty : BitVec 5) (tail : BitVec 5) (g : GroupRest) : Statement (.group0B ta pty tail g) := rfl
theorem group1A (ta : Bool) (pty : BitVec 5) (tail : BitVec 5) (g : GroupRest) : Statement (.group1A ta pty tail g) := rfl
theorem group1B (ta : Bool) (pty : BitVec 5) (tail : BitVec 5) (g : GroupRest) : Statement (.group1B ta pty tail g) := rfl
theorem group2A (ta : Bool) (pty : BitVec 5) (ab : Bool) (seg : BitVec 4) (g : GroupRest) : Statement (.group2A ta pty ab seg g) := rfl
theorem group2B (ta : Bool) (pty : BitVec 5) (tail : BitVec 5) (g : GroupRest) : Statement (.group2B ta pty tail g) := rfl
theorem group3A (ta : Bool) (pty : BitVec 5) (tail : BitVec 5) (g : GroupRest) : Statement (.group3A ta pty tail g) := rfl
theorem group3B (ta : Bool) (pty : BitVec 5) (tail : BitVec 5) (g : GroupRest) : Statement (.group3B ta pty tail g) := rfl
theorem group4A (ta : Bool) (pty : BitVec 5) (tail : BitVec 5) (g : GroupRest) : Statement (.group4A ta pty tail g) := rfl
theorem group4B (ta : Bool) (pty : BitVec 5) (tail : BitVec 5) (g : GroupRest) : Statement (.group4B ta pty tail g) := rfl
theorem group5A (ta : Bool) (pty : BitVec 5) (tail : BitVec 5) (g : GroupRest) : Statement (.group5A ta pty tail g) := rfl
theorem group5B (ta : Bool) (pty : BitVec 5) (tail : BitVec 5) (g : GroupRest) : Statement (.group5B ta pty tail g) := rfl
theorem group6A (ta : Bool) (pty : BitVec 5) (tail : BitVec 5) (g : GroupRest) : Statement (.group6A ta pty tail g) := rfl
theorem group6B (ta : Bool) (pty : BitVec 5) (tail : BitVec 5) (g : GroupRest) : Statement (.group6B ta pty tail g) := rfl
theorem group7A (ta : Bool) (pty : BitVec 5) (tail : BitVec 5) (g : GroupRest) : Statement (.group7A ta pty tail g) := rfl
theorem group7B (ta : Bool) (pty : BitVec 5) (tail : BitVec 5) (g : GroupRest) : Statement (.group7B ta pty tail g) := rfl
theorem group8A (ta : Bool) (pty : BitVec 5) (tail : BitVec 5) (g : GroupRest) : Statement (.group8A ta pty tail g) := rfl
theorem group8B (ta : Bool) (pty : BitVec 5) (tail : BitVec 5) (g : GroupRest) : Statement (.group8B ta pty tail g) := rfl
theorem group9A (ta : Bool) (pty : BitVec 5) (tail : BitVec 5) (g : GroupRest) : Statement (.group9A ta pty tail g) := rfl
theorem group9B (ta : Bool) (pty : BitVec 5) (tail : BitVec 5) (g : GroupRest) : Statement (.group9B ta pty tail g) := rfl
theorem group10A (ta : Bool) (pty : BitVec 5) (tail : BitVec 5) (g : GroupRest) : Statement (.group10A ta pty tail g) := rfl
theorem group10B (ta : Bool) (pty : BitVec 5) (tail : BitVec 5) (g : GroupRest) : Statement (.group10B ta pty tail g) := rfl
theorem group11A (ta : Bool) (pty : BitVec 5) (tail : BitVec 5) (g : GroupRest) : Statement (.group11A ta pty tail g) := rfl
theorem group11B (ta : Bool) (pty : BitVec 5) (tail : BitVec 5) (g : GroupRest) : Statement (.group11B ta pty tail g) := rfl
theorem group12A (ta : Bool) (pty : BitVec 5) (tail : BitVec 5) (g : GroupRest) : Statement (.group12A ta pty tail g) := rfl
theorem group12B (ta : Bool) (pty : BitVec 5) (tail : BitVec 5) (g : GroupRest) : Statement (.group12B ta pty tail g) := rfl
theorem group13A (ta : Bool) (pty : BitVec 5) (tail : BitVec 5) (g : GroupRest) : Statement (.group13A ta pty tail g) := rfl
theorem group13B (ta : Bool) (pty : BitVec 5) (tail : BitVec 5) (g : GroupRest) : Statement (.group13B ta pty tail g) := rfl
theorem group14A (ta : Bool) (pty : BitVec 5) (tail : BitVec 5) (g : GroupRest) : Statement (.group14A ta pty tail g) := rfl
theorem group14B (ta : Bool) (pty : BitVec 5) (tail : BitVec 5) (g : GroupRest) : Statement (.group14B ta pty tail g) := rfl
theorem group15A (ta : Bool) (pty : BitVec 5) (tail : BitVec 5) (g : GroupRest) : Statement (.group15A ta pty tail g) := rfl
theorem group15B (ta : Bool) (pty : BitVec 5) (tail : BitVec 5) (g : GroupRest) : Statement (.group15B ta pty tail g) := rfl
theorem demodStep (z : Cplx) : Statement (.demodStep z) := rfl
theorem demodFilt (z : Cplx) : Statement (.demodFilt z) := rfl
theorem demodMix (u : Cplx) : Statement (.demodMix u) := rfl
theorem demodDecim : Statement (.demodDecim) := rfl
theorem demodDisc (v : Cplx) : Statement (.demodDisc v) := rfl
theorem pllStep (y : Scalar) : Statement (.pllStep y) := rfl
theorem pllNco : Statement (.pllNco) := rfl
theorem pllMix (y : Scalar) : Statement (.pllMix y) := rfl
theorem pllErr (iBb qBb : Scalar) : Statement (.pllErr iBb qBb) := rfl
theorem pllFeedback (e : Scalar) : Statement (.pllFeedback e) := rfl
theorem pllSnap : Statement (.pllSnap) := rfl
theorem pllTickcnt (iBb : Scalar) : Statement (.pllTickcnt iBb) := rfl
theorem syncTick (bb : Scalar) : Statement (.syncTick bb) := rfl
theorem syncClock : Statement (.syncClock) := rfl
theorem syncAdj (bb cphi : Scalar) : Statement (.syncAdj bb cphi) := rfl
theorem syncInteg (bb : Scalar) (lo : Sign) : Statement (.syncInteg bb lo) := rfl
theorem syncDump (lo : Sign) : Statement (.syncDump lo) := rfl
theorem syncHalfsym (a : Scalar) : Statement (.syncHalfsym a) := rfl
theorem syncFramesel : Statement (.syncFramesel) := rfl
theorem diffStep (sym : Bool) : Statement (.diffStep sym) := rfl
theorem syndrome (m mlen : Nat) : Statement (.syndrome m mlen) := rfl
theorem crc16 (d : Word16) : Statement (.crc16 d) := rfl
theorem classify (k : Block26) : Statement (.classify k) := rfl
theorem bsyncShift (b : Bool) : Statement (.bsyncShift b) := rfl
theorem bsyncScan : Statement (.bsyncScan) := rfl
theorem grpDecode (pos : Nat) (presentA presentB presentC presentD : Bool) : Statement (.grpDecode pos presentA presentB presentC presentD) := rfl
theorem grpDecA (w : Word16) : Statement (.grpDecA w) := rfl
theorem grpDecB (w : Word16) : Statement (.grpDecB w) := rfl
theorem grpDecCd (w : Word16) : Statement (.grpDecCd w) := rfl
theorem piHex (valid : Bool) (pi : Word16) : Statement (.piHex valid pi) := rfl
theorem ptyName (code : Option Nat) : Statement (.ptyName code) := rfl

end Sys2Proof.Laws.Encoding
end

