-- ==== Sys2Proof/Laws/State.lean ====
section
/-! SUPPORT. One lemma for each field of the state under each named update of it, true by rfl, so that no proof
unfolds a record update. -/

namespace Sys2Proof.Machine

@[simp] theorem emit_demod (e : OutEvent) (s : State) : (emit e s).demod = s.demod := rfl
@[simp] theorem emit_pll (e : OutEvent) (s : State) : (emit e s).pll = s.pll := rfl
@[simp] theorem emit_sync (e : OutEvent) (s : State) : (emit e s).sync = s.sync := rfl
@[simp] theorem emit_diff (e : OutEvent) (s : State) : (emit e s).diff = s.diff := rfl
@[simp] theorem emit_bsync (e : OutEvent) (s : State) : (emit e s).bsync = s.bsync := rfl
@[simp] theorem emit_station (e : OutEvent) (s : State) : (emit e s).station = s.station := rfl
@[simp] theorem emit_flags (e : OutEvent) (s : State) : (emit e s).flags = s.flags := rfl
@[simp] theorem emit_cfg (e : OutEvent) (s : State) : (emit e s).cfg = s.cfg := rfl
@[simp] theorem emit_cfgIn (e : OutEvent) (s : State) : (emit e s).cfgIn = s.cfgIn := rfl
@[simp] theorem emit_cfgOk (e : OutEvent) (s : State) : (emit e s).cfgOk = s.cfgOk := rfl
@[simp] theorem emit_inputs (e : OutEvent) (s : State) : (emit e s).inputs = s.inputs := rfl
@[simp] theorem emit_out (e : OutEvent) (s : State) : (emit e s).out = s.out ++ [e] := rfl
@[simp] theorem emit_result (e : OutEvent) (s : State) : (emit e s).result = s.result := rfl

@[simp] theorem withResult_demod (s : State) (r : Result) : (s.withResult r).demod = s.demod := rfl
@[simp] theorem withResult_pll (s : State) (r : Result) : (s.withResult r).pll = s.pll := rfl
@[simp] theorem withResult_sync (s : State) (r : Result) : (s.withResult r).sync = s.sync := rfl
@[simp] theorem withResult_diff (s : State) (r : Result) : (s.withResult r).diff = s.diff := rfl
@[simp] theorem withResult_bsync (s : State) (r : Result) : (s.withResult r).bsync = s.bsync := rfl
@[simp] theorem withResult_station (s : State) (r : Result) : (s.withResult r).station = s.station := rfl
@[simp] theorem withResult_flags (s : State) (r : Result) : (s.withResult r).flags = s.flags := rfl
@[simp] theorem withResult_cfg (s : State) (r : Result) : (s.withResult r).cfg = s.cfg := rfl
@[simp] theorem withResult_cfgIn (s : State) (r : Result) : (s.withResult r).cfgIn = s.cfgIn := rfl
@[simp] theorem withResult_cfgOk (s : State) (r : Result) : (s.withResult r).cfgOk = s.cfgOk := rfl
@[simp] theorem withResult_inputs (s : State) (r : Result) : (s.withResult r).inputs = s.inputs := rfl
@[simp] theorem withResult_out (s : State) (r : Result) : (s.withResult r).out = s.out := rfl
@[simp] theorem withResult_result (s : State) (r : Result) : (s.withResult r).result = r := rfl

@[simp] theorem onStation_demod (f : Station → Station) (s : State) : (onStation f s).demod = s.demod := rfl
@[simp] theorem onStation_pll (f : Station → Station) (s : State) : (onStation f s).pll = s.pll := rfl
@[simp] theorem onStation_sync (f : Station → Station) (s : State) : (onStation f s).sync = s.sync := rfl
@[simp] theorem onStation_diff (f : Station → Station) (s : State) : (onStation f s).diff = s.diff := rfl
@[simp] theorem onStation_bsync (f : Station → Station) (s : State) : (onStation f s).bsync = s.bsync := rfl
@[simp] theorem onStation_station (f : Station → Station) (s : State) : (onStation f s).station = f s.station := rfl
@[simp] theorem onStation_flags (f : Station → Station) (s : State) : (onStation f s).flags = s.flags := rfl
@[simp] theorem onStation_cfg (f : Station → Station) (s : State) : (onStation f s).cfg = s.cfg := rfl
@[simp] theorem onStation_cfgIn (f : Station → Station) (s : State) : (onStation f s).cfgIn = s.cfgIn := rfl
@[simp] theorem onStation_cfgOk (f : Station → Station) (s : State) : (onStation f s).cfgOk = s.cfgOk := rfl
@[simp] theorem onStation_inputs (f : Station → Station) (s : State) : (onStation f s).inputs = s.inputs := rfl
@[simp] theorem onStation_out (f : Station → Station) (s : State) : (onStation f s).out = s.out := rfl
@[simp] theorem onStation_result (f : Station → Station) (s : State) : (onStation f s).result = s.result := rfl

@[simp] theorem present_demod (s : State) (x : Input) : (s.present x).demod = s.demod := rfl
@[simp] theorem present_pll (s : State) (x : Input) : (s.present x).pll = s.pll := rfl
@[simp] theorem present_sync (s : State) (x : Input) : (s.present x).sync = s.sync := rfl
@[simp] theorem present_diff (s : State) (x : Input) : (s.present x).diff = s.diff := rfl
@[simp] theorem present_bsync (s : State) (x : Input) : (s.present x).bsync = s.bsync := rfl
@[simp] theorem present_station (s : State) (x : Input) : (s.present x).station = s.station := rfl
@[simp] theorem present_flags (s : State) (x : Input) : (s.present x).flags = s.flags := rfl
@[simp] theorem present_cfg (s : State) (x : Input) : (s.present x).cfg = s.cfg := rfl
@[simp] theorem present_cfgIn (s : State) (x : Input) : (s.present x).cfgIn = s.cfgIn := rfl
@[simp] theorem present_cfgOk (s : State) (x : Input) : (s.present x).cfgOk = s.cfgOk := rfl
@[simp] theorem present_inputs (s : State) (x : Input) : (s.present x).inputs = x :: s.inputs := rfl
@[simp] theorem present_out (s : State) (x : Input) : (s.present x).out = s.out := rfl
@[simp] theorem present_result (s : State) (x : Input) : (s.present x).result = s.result := rfl

@[simp] theorem accept_demod (s : State) : (s.accept).demod = s.demod := rfl
@[simp] theorem accept_pll (s : State) : (s.accept).pll = s.pll := rfl
@[simp] theorem accept_sync (s : State) : (s.accept).sync = s.sync := rfl
@[simp] theorem accept_diff (s : State) : (s.accept).diff = s.diff := rfl
@[simp] theorem accept_bsync (s : State) : (s.accept).bsync = s.bsync := rfl
@[simp] theorem accept_station (s : State) : (s.accept).station = s.station := rfl
@[simp] theorem accept_flags (s : State) : (s.accept).flags = s.flags := rfl
@[simp] theorem accept_cfg (s : State) : (s.accept).cfg = s.cfg := rfl
@[simp] theorem accept_cfgIn (s : State) : (s.accept).cfgIn = s.cfgIn := rfl
@[simp] theorem accept_cfgOk (s : State) : (s.accept).cfgOk = s.cfgOk := rfl
@[simp] theorem accept_inputs (s : State) : (s.accept).inputs = s.inputs.tail := rfl
@[simp] theorem accept_out (s : State) : (s.accept).out = [] := rfl
@[simp] theorem accept_result (s : State) : (s.accept).result = s.result := rfl

@[simp] theorem grpDecA_demod (w : Word16) (s : State) : (grpDecA w s).demod = s.demod := rfl
@[simp] theorem grpDecA_pll (w : Word16) (s : State) : (grpDecA w s).pll = s.pll := rfl
@[simp] theorem grpDecA_sync (w : Word16) (s : State) : (grpDecA w s).sync = s.sync := rfl
@[simp] theorem grpDecA_diff (w : Word16) (s : State) : (grpDecA w s).diff = s.diff := rfl
@[simp] theorem grpDecA_bsync (w : Word16) (s : State) : (grpDecA w s).bsync = s.bsync := rfl
@[simp] theorem grpDecA_station (w : Word16) (s : State) : (grpDecA w s).station = { s.station with pi := w, piValid := true } := rfl
@[simp] theorem grpDecA_flags (w : Word16) (s : State) : (grpDecA w s).flags = s.flags := rfl
@[simp] theorem grpDecA_cfg (w : Word16) (s : State) : (grpDecA w s).cfg = s.cfg := rfl
@[simp] theorem grpDecA_cfgIn (w : Word16) (s : State) : (grpDecA w s).cfgIn = s.cfgIn := rfl
@[simp] theorem grpDecA_cfgOk (w : Word16) (s : State) : (grpDecA w s).cfgOk = s.cfgOk := rfl
@[simp] theorem grpDecA_inputs (w : Word16) (s : State) : (grpDecA w s).inputs = s.inputs := rfl
@[simp] theorem grpDecA_out (w : Word16) (s : State) : (grpDecA w s).out = s.out := rfl
@[simp] theorem grpDecA_result (w : Word16) (s : State) : (grpDecA w s).result = s.result := rfl

@[simp] theorem emitGroup_demod (m : GMap) (s : State) : (emitGroup m s).demod = s.demod := rfl
@[simp] theorem emitGroup_pll (m : GMap) (s : State) : (emitGroup m s).pll = s.pll := rfl
@[simp] theorem emitGroup_sync (m : GMap) (s : State) : (emitGroup m s).sync = s.sync := rfl
@[simp] theorem emitGroup_diff (m : GMap) (s : State) : (emitGroup m s).diff = s.diff := rfl
@[simp] theorem emitGroup_bsync (m : GMap) (s : State) : (emitGroup m s).bsync = s.bsync := rfl
@[simp] theorem emitGroup_station (m : GMap) (s : State) : (emitGroup m s).station = s.station := rfl
@[simp] theorem emitGroup_flags (m : GMap) (s : State) : (emitGroup m s).flags = s.flags := rfl
@[simp] theorem emitGroup_cfg (m : GMap) (s : State) : (emitGroup m s).cfg = s.cfg := rfl
@[simp] theorem emitGroup_cfgIn (m : GMap) (s : State) : (emitGroup m s).cfgIn = s.cfgIn := rfl
@[simp] theorem emitGroup_cfgOk (m : GMap) (s : State) : (emitGroup m s).cfgOk = s.cfgOk := rfl
@[simp] theorem emitGroup_inputs (m : GMap) (s : State) : (emitGroup m s).inputs = s.inputs := rfl
@[simp] theorem emitGroup_out (m : GMap) (s : State) : (emitGroup m s).out = s.out ++ [.group m s.station] := rfl
@[simp] theorem emitGroup_result (m : GMap) (s : State) : (emitGroup m s).result = s.result := rfl

@[simp] theorem pllNco_demod (s : State) : (pllNco s).demod = s.demod := rfl
@[simp] theorem pllNco_pll (s : State) : (pllNco s).pll = { s.pll with phi := s.pll.phi + 2 * s.cfg.num.pi * s.pll.fEst / s.cfg.fsMpx } := rfl
@[simp] theorem pllNco_sync (s : State) : (pllNco s).sync = s.sync := rfl
@[simp] theorem pllNco_diff (s : State) : (pllNco s).diff = s.diff := rfl
@[simp] theorem pllNco_bsync (s : State) : (pllNco s).bsync = s.bsync := rfl
@[simp] theorem pllNco_station (s : State) : (pllNco s).station = s.station := rfl
@[simp] theorem pllNco_flags (s : State) : (pllNco s).flags = s.flags := rfl
@[simp] theorem pllNco_cfg (s : State) : (pllNco s).cfg = s.cfg := rfl
@[simp] theorem pllNco_cfgIn (s : State) : (pllNco s).cfgIn = s.cfgIn := rfl
@[simp] theorem pllNco_cfgOk (s : State) : (pllNco s).cfgOk = s.cfgOk := rfl
@[simp] theorem pllNco_inputs (s : State) : (pllNco s).inputs = s.inputs := rfl
@[simp] theorem pllNco_out (s : State) : (pllNco s).out = s.out := rfl
@[simp] theorem pllNco_result (s : State) : (pllNco s).result = s.result := rfl

@[simp] theorem syncInteg_demod (bb : Scalar) (lo : Sign) (s : State) : (syncInteg bb lo s).demod = s.demod := rfl
@[simp] theorem syncInteg_pll (bb : Scalar) (lo : Sign) (s : State) : (syncInteg bb lo s).pll = s.pll := rfl
@[simp] theorem syncInteg_sync (bb : Scalar) (lo : Sign) (s : State) : (syncInteg bb lo s).sync = { s.sync with acc := s.sync.acc + bb * lo.toScalar } := rfl
@[simp] theorem syncInteg_diff (bb : Scalar) (lo : Sign) (s : State) : (syncInteg bb lo s).diff = s.diff := rfl
@[simp] theorem syncInteg_bsync (bb : Scalar) (lo : Sign) (s : State) : (syncInteg bb lo s).bsync = s.bsync := rfl
@[simp] theorem syncInteg_station (bb : Scalar) (lo : Sign) (s : State) : (syncInteg bb lo s).station = s.station := rfl
@[simp] theorem syncInteg_flags (bb : Scalar) (lo : Sign) (s : State) : (syncInteg bb lo s).flags = s.flags := rfl
@[simp] theorem syncInteg_cfg (bb : Scalar) (lo : Sign) (s : State) : (syncInteg bb lo s).cfg = s.cfg := rfl
@[simp] theorem syncInteg_cfgIn (bb : Scalar) (lo : Sign) (s : State) : (syncInteg bb lo s).cfgIn = s.cfgIn := rfl
@[simp] theorem syncInteg_cfgOk (bb : Scalar) (lo : Sign) (s : State) : (syncInteg bb lo s).cfgOk = s.cfgOk := rfl
@[simp] theorem syncInteg_inputs (bb : Scalar) (lo : Sign) (s : State) : (syncInteg bb lo s).inputs = s.inputs := rfl
@[simp] theorem syncInteg_out (bb : Scalar) (lo : Sign) (s : State) : (syncInteg bb lo s).out = s.out := rfl
@[simp] theorem syncInteg_result (bb : Scalar) (lo : Sign) (s : State) : (syncInteg bb lo s).result = s.result := rfl

@[simp] theorem raise_demod (c : Cause) (s : State) : (raise c s).demod = s.demod := by cases c <;> rfl
@[simp] theorem raise_pll (c : Cause) (s : State) : (raise c s).pll = s.pll := by cases c <;> rfl
@[simp] theorem raise_sync (c : Cause) (s : State) : (raise c s).sync = s.sync := by cases c <;> rfl
@[simp] theorem raise_diff (c : Cause) (s : State) : (raise c s).diff = s.diff := by cases c <;> rfl
@[simp] theorem raise_bsync (c : Cause) (s : State) : (raise c s).bsync = s.bsync := by cases c <;> rfl
@[simp] theorem raise_station (c : Cause) (s : State) : (raise c s).station = s.station := by cases c <;> rfl
@[simp] theorem raise_cfg (c : Cause) (s : State) : (raise c s).cfg = s.cfg := by cases c <;> rfl
@[simp] theorem raise_cfgIn (c : Cause) (s : State) : (raise c s).cfgIn = s.cfgIn := by cases c <;> rfl
@[simp] theorem raise_cfgOk (c : Cause) (s : State) : (raise c s).cfgOk = s.cfgOk := by cases c <;> rfl
@[simp] theorem raise_inputs (c : Cause) (s : State) : (raise c s).inputs = s.inputs := by cases c <;> rfl
@[simp] theorem raise_out (c : Cause) (s : State) : (raise c s).out = s.out := by cases c <;> rfl
@[simp] theorem raise_result (c : Cause) (s : State) : (raise c s).result = s.result := by cases c <;> rfl

@[simp] theorem raise_syncMiss (s : State) : raise .syncMiss s = s := rfl
@[simp] theorem raise_resourceError (s : State) : raise .resourceError s = s := rfl
@[simp] theorem raise_refused_flags (s : State) : (raise .refused s).flags = { s.flags with refused := true } := rfl
@[simp] theorem raise_configurationError_flags (s : State) :
    (raise .configurationError s).flags = { s.flags with fltConfig := true } := rfl
@[simp] theorem raise_protocolError_flags (s : State) :
    (raise .protocolError s).flags = { s.flags with fltProto := true } := rfl

@[simp] theorem s0_cfg (c : Cfg) : (State.s0 c).cfg = c := rfl
@[simp] theorem s0_cfgIn (c : Cfg) : (State.s0 c).cfgIn = c := rfl
@[simp] theorem s0_cfgOk (c : Cfg) : (State.s0 c).cfgOk = true := rfl
@[simp] theorem s0_inputs (c : Cfg) : (State.s0 c).inputs = [] := rfl
@[simp] theorem s0_out (c : Cfg) : (State.s0 c).out = [] := rfl

end Sys2Proof.Machine
end

