-- ==== Sys2Proof/Laws/Stages.lean ====
section
/-! SUPPORT. What each shared operation leaves alone and what it may change, one lemma an operation, from the last
stage back to the first: later proofs cite these and do not unfold the chain. -/

namespace Sys2Proof.Machine

/-- What stages 5 and 6 leave alone. -/
structure LeavesScan (s t : State) : Prop where
  demod  : t.demod = s.demod
  pll    : t.pll = s.pll
  sync   : t.sync = s.sync
  diff   : t.diff = s.diff
  flags  : t.flags = s.flags
  cfg    : t.cfg = s.cfg
  cfgIn  : t.cfgIn = s.cfgIn
  cfgOk  : t.cfgOk = s.cfgOk
  inputs : t.inputs = s.inputs
  result : t.result = s.result

/-- What no stage of a port event writes: the flags, the configuration, the inputs and the result. -/
structure LeavesHost (s t : State) : Prop where
  flags  : t.flags = s.flags
  cfg    : t.cfg = s.cfg
  cfgIn  : t.cfgIn = s.cfgIn
  cfgOk  : t.cfgOk = s.cfgOk
  inputs : t.inputs = s.inputs
  result : t.result = s.result

theorem LeavesScan.host {s t : State} (h : LeavesScan s t) : LeavesHost s t :=
  ⟨h.flags, h.cfg, h.cfgIn, h.cfgOk, h.inputs, h.result⟩

theorem LeavesScan.trans {s t u : State} (h : LeavesScan s t) (k : LeavesScan t u) : LeavesScan s u :=
  ⟨k.1.trans h.1, k.2.trans h.2, k.3.trans h.3, k.4.trans h.4, k.5.trans h.5, k.6.trans h.6, k.7.trans h.7,
    k.8.trans h.8, k.9.trans h.9, k.10.trans h.10⟩

theorem LeavesHost.refl (s : State) : LeavesHost s s := ⟨rfl, rfl, rfl, rfl, rfl, rfl⟩

theorem LeavesHost.trans {s t u : State} (h : LeavesHost s t) (k : LeavesHost t u) : LeavesHost s u :=
  ⟨k.1.trans h.1, k.2.trans h.2, k.3.trans h.3, k.4.trans h.4, k.5.trans h.5, k.6.trans h.6⟩

/-! ## Stage 6 -/

/-- The range check of a 5-bit field always passes (R244). -/
theorem grpDecB_eq (w : Word16) (s : State) :
    grpDecB w s = { s with station := { s.station with pty := wordPty w, ptyValid := true } } := by
  have h : ¬ 31 < (wordPty w).toNat := by
    have := (wordPty w).isLt
    omega
  simp only [grpDecB, h, if_false]

theorem decAIfPresent_eq (a : Option Word16) (s : State) :
    decAIfPresent a s =
      { s with station := { s.station with pi := a.getD s.station.pi, piValid := a.isSome || s.station.piValid } } := by
  cases a <;> rfl

/-- The station state a group leaves (R247). -/
def stationAfter (g : GroupWords) (st : Station) : Station :=
  let st := { st with pi := g.a.getD st.pi, piValid := g.a.isSome || st.piValid }
  match g.b with
  | some w => dispatchArm w g.c g.d { st with pty := wordPty w, ptyValid := true }
  | none => st

/-- GRP.DECODE writes the station state and emits one event, and does nothing else (R247). -/
theorem grpDecode_eq (pos : Nat) (g : GroupWords) (s : State) :
    grpDecode pos g s =
      { s with
        station := stationAfter g s.station
        out := s.out ++ [.group (g.map pos) (stationAfter g s.station)] } := by
  obtain ⟨a, b, c, d⟩ := g
  cases b <;> simp only [grpDecode, grpDecB_eq, decAIfPresent_eq] <;> rfl

theorem groupWith_eq (w : Word16) (arm : Station → Station) (g : GroupRest) (s : State) :
    groupWith w arm g s =
      let st := arm
        { s.station with
          pi := g.a.getD s.station.pi, piValid := g.a.isSome || s.station.piValid, pty := wordPty w, ptyValid := true }
      { s with
        station := st
        out := s.out ++ [.group ⟨g.pos, g.a.isSome, true, g.c.isSome, g.d.isSome⟩ st] } := by
  simp only [groupWith, grpDecB_eq, decAIfPresent_eq]
  rfl

/-! ## Stage 5 -/

/-- BSYNC.SCAN: nothing, or the decoding of the candidate in the window (R219, R221). -/
theorem bsyncScan_cases (s : State) :
    (reportable s.cfg ((candidate s.bsync.win).map (s.bsync.nbits - 104)) = false ∧ bsyncScan s = s) ∨
    (reportable s.cfg ((candidate s.bsync.win).map (s.bsync.nbits - 104)) = true ∧
      bsyncScan s = grpDecode (s.bsync.nbits - 104) (candidate s.bsync.win) s) := by
  cases h : reportable s.cfg ((candidate s.bsync.win).map (s.bsync.nbits - 104)) <;> simp [bsyncScan, h]

/-- BSYNC.SHIFT: the bit enters the window, and a reportable candidate is decoded (R218). -/
theorem bsyncShift_cases (b : Bool) (s : State) :
    bsyncShift b s = { s with bsync := pushBit b s.bsync } ∨
    (104 ≤ s.bsync.nbits + 1 ∧
      reportable s.cfg ((candidate (pushBit b s.bsync).win).map (s.bsync.nbits + 1 - 104)) = true ∧
      bsyncShift b s =
        grpDecode (s.bsync.nbits + 1 - 104) (candidate (pushBit b s.bsync).win)
          { s with bsync := pushBit b s.bsync }) := by
  by_cases h : 104 ≤ s.bsync.nbits + 1
  · have e : bsyncShift b s = bsyncScan { s with bsync := pushBit b s.bsync } := by
      simp only [bsyncShift, pushBit, h, if_true]
    rcases bsyncScan_cases { s with bsync := pushBit b s.bsync } with ⟨_, k⟩ | ⟨r, k⟩
    · exact .inl (e.trans k)
    · exact .inr ⟨h, r, e.trans k⟩
  · left
    simp only [bsyncShift, pushBit, h, if_false]

theorem bsyncShift_leaves (b : Bool) (s : State) : LeavesScan s (bsyncShift b s) := by
  rcases bsyncShift_cases b s with h | ⟨-, -, h⟩ <;> rw [h]
  · exact ⟨rfl, rfl, rfl, rfl, rfl, rfl, rfl, rfl, rfl, rfl⟩
  · rw [grpDecode_eq]
    exact ⟨rfl, rfl, rfl, rfl, rfl, rfl, rfl, rfl, rfl, rfl⟩

theorem bsyncShift_bsync (b : Bool) (s : State) : (bsyncShift b s).bsync = pushBit b s.bsync := by
  rcases bsyncShift_cases b s with h | ⟨-, -, h⟩ <;> rw [h]
  rw [grpDecode_eq]

/-! ## Stage 4 -/

theorem diffStep_host (x : Bool) (s : State) : LeavesHost s (diffStep x s) := by
  unfold diffStep
  split
  · have h := (bsyncShift_leaves (x ^^ s.diff.dPrev) (emit (.bit (x ^^ s.diff.dPrev)) s)).host
    exact ⟨h.1, h.2, h.3, h.4, h.5, h.6⟩
  · exact ⟨rfl, rfl, rfl, rfl, rfl, rfl⟩

theorem diffStep_earlier (x : Bool) (s : State) :
    (diffStep x s).demod = s.demod ∧ (diffStep x s).pll = s.pll ∧ (diffStep x s).sync = s.sync := by
  unfold diffStep
  split
  · have h := bsyncShift_leaves (x ^^ s.diff.dPrev) (emit (.bit (x ^^ s.diff.dPrev)) s)
    exact ⟨h.demod, h.pll, h.sync⟩
  · exact ⟨rfl, rfl, rfl⟩

/-! ## Stage 3 -/

/-- What SYNC.HALFSYM does to the state of stage 3 (R178, R180, R182, R183). -/
def syncAfterHalfsym (a : Scalar) (y : Sync) : Sync :=
  let y1 := recordErr (parity y) a y
  let y2 := { y1 with prevAcc := a, hsCnt := advance y1.hsCnt 800 }
  if y2.hsCnt = 0 then
    { y2 with frame := if otherFrameBetter y2 then !y2.frame else y2.frame, err0 := 0, err1 := 0 }
  else y2

/-- The state SYNC.HALFSYM leaves behind once its symbol, if any, is out. -/
def afterSymbol (a : Scalar) (s : State) : State :=
  let s1 := { s with sync := recordErr (parity s.sync) a s.sync }
  if parity s.sync = s1.sync.frame then emitSymbol a s1 else s1

theorem afterSymbol_host (a : Scalar) (s : State) : LeavesHost s (afterSymbol a s) := by
  unfold afterSymbol
  dsimp only
  split
  · have h := diffStep_host (rawSymbol a (recordErr (parity s.sync) a s.sync))
      (emit (.sym (rawSymbol a (recordErr (parity s.sync) a s.sync)))
        { s with sync := recordErr (parity s.sync) a s.sync })
    exact ⟨h.1, h.2, h.3, h.4, h.5, h.6⟩
  · exact ⟨rfl, rfl, rfl, rfl, rfl, rfl⟩

theorem afterSymbol_earlier (a : Scalar) (s : State) :
    (afterSymbol a s).demod = s.demod ∧ (afterSymbol a s).pll = s.pll ∧
      (afterSymbol a s).sync = recordErr (parity s.sync) a s.sync := by
  unfold afterSymbol
  dsimp only
  split
  · exact diffStep_earlier (rawSymbol a (recordErr (parity s.sync) a s.sync))
      (emit (.sym (rawSymbol a (recordErr (parity s.sync) a s.sync)))
        { s with sync := recordErr (parity s.sync) a s.sync })
  · exact ⟨rfl, rfl, rfl⟩

/-- SYNC.HALFSYM: its symbol goes down the later stages and its own stage is updated (R178). -/
theorem syncHalfsym_eq (a : Scalar) (s : State) :
    syncHalfsym a s = { afterSymbol a s with sync := syncAfterHalfsym a s.sync } := by
  have h := (afterSymbol_earlier a s).2.2
  have e : syncHalfsym a s =
      (let s2 : State :=
        { afterSymbol a s with
          sync := { (afterSymbol a s).sync with prevAcc := a, hsCnt := advance (afterSymbol a s).sync.hsCnt 800 } }
       if s2.sync.hsCnt = 0 then syncFramesel s2 else s2) := rfl
  rw [e, h]
  unfold syncAfterHalfsym
  dsimp only
  split <;> rfl

/-- The state in which the later stages see a tick's symbol, and what the tick leaves of them (R171). -/
def syncBeforeDump (bb : Scalar) (s : State) : State :=
  syncInteg bb (syncClock s).2 (syncAdj bb (syncClock s).1 s)

/-- The state of stage 3 after SYNC.DUMP (R176). -/
def syncAfterDump (lo : Sign) (y : Sync) : Sync :=
  if lo ≠ y.prevLo then { syncAfterHalfsym y.acc y with acc := 0 } else y

theorem syncDump_eq (lo : Sign) (s : State) :
    syncDump lo s =
      if lo ≠ s.sync.prevLo then { afterSymbol s.sync.acc s with sync := syncAfterDump lo s.sync } else s := by
  unfold syncDump syncAfterDump
  split
  · rw [syncHalfsym_eq]
  · rfl

theorem syncDump_sync (lo : Sign) (s : State) : (syncDump lo s).sync = syncAfterDump lo s.sync := by
  rw [syncDump_eq]
  split
  · rfl
  · rename_i h
    simp only [syncAfterDump, h, if_false]

theorem syncDump_host (lo : Sign) (s : State) : LeavesHost s (syncDump lo s) := by
  rw [syncDump_eq]
  split
  · have h := afterSymbol_host s.sync.acc s
    exact ⟨h.1, h.2, h.3, h.4, h.5, h.6⟩
  · exact .refl s

theorem syncDump_earlier (lo : Sign) (s : State) :
    (syncDump lo s).demod = s.demod ∧ (syncDump lo s).pll = s.pll := by
  rw [syncDump_eq]
  split
  · exact ⟨(afterSymbol_earlier s.sync.acc s).1, (afterSymbol_earlier s.sync.acc s).2.1⟩
  · exact ⟨rfl, rfl⟩

theorem syncAdj_eq (bb cphi : Scalar) (s : State) :
    syncAdj bb cphi s = { s with sync := (syncAdj bb cphi s).sync } := by
  unfold syncAdj
  split <;> rfl

theorem syncBeforeDump_eq (bb : Scalar) (s : State) :
    syncBeforeDump bb s = { s with sync := (syncBeforeDump bb s).sync } := by
  unfold syncBeforeDump
  rw [syncAdj_eq]
  rfl

/-- SYNC.TICK: dump, then the two remembered values (R171). -/
theorem syncTick_eq (bb : Scalar) (s : State) :
    syncTick bb s =
      let t := syncDump (syncClock s).2 (syncBeforeDump bb s)
      { t with sync := { t.sync with prevLo := (syncClock s).2, prevBb := bb } } := rfl

theorem syncTick_host (bb : Scalar) (s : State) : LeavesHost s (syncTick bb s) := by
  rw [syncTick_eq]
  have h := syncDump_host (syncClock s).2 (syncBeforeDump bb s)
  rw [syncBeforeDump_eq] at h
  rw [syncBeforeDump_eq]
  exact ⟨h.1, h.2, h.3, h.4, h.5, h.6⟩

theorem syncTick_earlier (bb : Scalar) (s : State) :
    (syncTick bb s).demod = s.demod ∧ (syncTick bb s).pll = s.pll := by
  rw [syncTick_eq, syncBeforeDump_eq]
  exact syncDump_earlier (syncClock s).2 { s with sync := (syncBeforeDump bb s).sync }

/-! ## Stage 2 -/

/-- The state of stage 2 after PLL.STEP, and the in-phase arm it hands to stage 3 (R150). -/
def pllAfter (y : Scalar) (s : State) : Pll × Scalar :=
  let m := pllMix y (pllNco s)
  let e := pllErr m.2.1 m.2.2 m.1
  ((pllSnap (pllFeedback e.2 e.1)).pll, m.2.1)

theorem pllSnap_eq (s : State) : pllSnap s = { s with pll := (pllSnap s).pll } := by
  unfold pllSnap
  split <;> rfl

/-- PLL.STEP: stage 2 is updated and the tick counter runs (R150). -/
theorem pllStep_eq (y : Scalar) (s : State) :
    pllStep y s = pllTickcnt (pllAfter y s).2 { s with pll := (pllAfter y s).1 } := by
  have e : pllStep y s =
      pllTickcnt (pllAfter y s).2
        (pllSnap (pllFeedback (pllErr (pllMix y (pllNco s)).2.1 (pllMix y (pllNco s)).2.2 (pllMix y (pllNco s)).1).2
          (pllErr (pllMix y (pllNco s)).2.1 (pllMix y (pllNco s)).2.2 (pllMix y (pllNco s)).1).1)) := rfl
  rw [e, pllSnap_eq]
  rfl

theorem pllTickcnt_eq (iBb : Scalar) (s : State) :
    pllTickcnt iBb s =
      let s1 := { s with sync := { s.sync with n2 := advance s.sync.n2 s.cfg.dec2 } }
      if s.sync.n2 = 0 then syncTick iBb s1 else s1 := by
  have e : pllTickcnt iBb s =
      (let s1 := { s with sync := { s.sync with n2 := advance s.sync.n2 s.cfg.dec2 } }
       if decide (s.sync.n2 = 0) = true then syncTick iBb s1 else s1) := rfl
  rw [e]
  simp only [decide_eq_true_eq]

theorem pllTickcnt_host (iBb : Scalar) (s : State) : LeavesHost s (pllTickcnt iBb s) := by
  rw [pllTickcnt_eq]
  dsimp only
  split
  · have h := syncTick_host iBb { s with sync := { s.sync with n2 := advance s.sync.n2 s.cfg.dec2 } }
    exact ⟨h.1, h.2, h.3, h.4, h.5, h.6⟩
  · exact ⟨rfl, rfl, rfl, rfl, rfl, rfl⟩

theorem pllTickcnt_earlier (iBb : Scalar) (s : State) :
    (pllTickcnt iBb s).demod = s.demod ∧ (pllTickcnt iBb s).pll = s.pll := by
  rw [pllTickcnt_eq]
  dsimp only
  split
  · exact syncTick_earlier iBb { s with sync := { s.sync with n2 := advance s.sync.n2 s.cfg.dec2 } }
  · exact ⟨rfl, rfl⟩

theorem pllStep_host (y : Scalar) (s : State) : LeavesHost s (pllStep y s) := by
  rw [pllStep_eq]
  have h := pllTickcnt_host (pllAfter y s).2 { s with pll := (pllAfter y s).1 }
  exact ⟨h.1, h.2, h.3, h.4, h.5, h.6⟩

theorem pllStep_earlier (y : Scalar) (s : State) :
    (pllStep y s).demod = s.demod ∧ (pllStep y s).pll = (pllAfter y s).1 := by
  rw [pllStep_eq]
  exact pllTickcnt_earlier (pllAfter y s).2 { s with pll := (pllAfter y s).1 }

/-! ## Stage 1 -/

/-- The sample after the mixer (R132, R133). -/
def mixed (z : Cplx) (s : State) : Cplx := (demodMix (demodFilt z s).2 (demodFilt z s).1).2

/-- The state of stage 1 after filter, mixer and decimator (R132 to R134). -/
def demodAfter (z : Cplx) (s : State) : Demod :=
  (demodDecim (demodMix (demodFilt z s).2 (demodFilt z s).1).1).1.demod

/-- DEMOD.STEP: stage 1 is updated, and a kept sample goes on to stage 2 (R136). -/
theorem demodStep_eq (z : Cplx) (s : State) :
    demodStep z s =
      if s.demod.n1 = 0 then
        pllStep (s.cfg.fmGain * s.cfg.num.arg ((mixed z s).mul s.demod.vPrev.conj))
          { s with demod := { demodAfter z s with vPrev := mixed z s } }
      else { s with demod := demodAfter z s } := by
  have e : demodStep z s =
      if decide (s.demod.n1 = 0) = true then
        pllStep (s.cfg.fmGain * s.cfg.num.arg ((mixed z s).mul s.demod.vPrev.conj))
          { s with demod := { demodAfter z s with vPrev := mixed z s } }
      else { s with demod := demodAfter z s } := rfl
  rw [e]
  simp only [decide_eq_true_eq]

theorem demodStep_host (z : Cplx) (s : State) : LeavesHost s (demodStep z s) := by
  rw [demodStep_eq]
  split
  · have h := pllStep_host (s.cfg.fmGain * s.cfg.num.arg ((mixed z s).mul s.demod.vPrev.conj))
      { s with demod := { demodAfter z s with vPrev := mixed z s } }
    exact ⟨h.1, h.2, h.3, h.4, h.5, h.6⟩
  · exact ⟨rfl, rfl, rfl, rfl, rfl, rfl⟩

/-! ## Port events -/

theorem portEvent_accepting {s : State} (h : s.accepting) (f : State → State) : portEvent f s = f s := by
  simp [portEvent, h.1, h.2]

/-- What the gate can do (R301, R305). -/
theorem portEvent_cases (f : State → State) (s : State) :
    (s.cfgOk = false ∧ portEvent f s = raise .refused s) ∨
    (s.cfgOk = true ∧ s.flags.fltConfig = true ∧ portEvent f s = s) ∨
    (s.accepting ∧ portEvent f s = f s) := by
  by_cases h : s.cfgOk = false
  · exact .inl ⟨h, by simp [portEvent, h]⟩
  · by_cases k : s.flags.fltConfig = true
    · exact .inr (.inl ⟨by simpa using h, k, by simp [portEvent, h, k]⟩)
    · have ha : s.accepting := ⟨by simpa using h, by simpa using k⟩
      exact .inr (.inr ⟨ha, portEvent_accepting ha f⟩)

/-! ## The waiting inputs

No operation below the step reads them (R281): running under another queue changes the queue and nothing else. -/

theorem grpDecode_inputs (pos : Nat) (g : GroupWords) (s : State) (q : List Input) :
    grpDecode pos g { s with inputs := q } = { grpDecode pos g s with inputs := q } := by
  rw [grpDecode_eq, grpDecode_eq]

theorem bsyncScan_inputs (s : State) (q : List Input) :
    bsyncScan { s with inputs := q } = { bsyncScan s with inputs := q } := by
  unfold bsyncScan
  dsimp only
  split
  · exact grpDecode_inputs _ _ s q
  · rfl

theorem bsyncShift_inputs (b : Bool) (s : State) (q : List Input) :
    bsyncShift b { s with inputs := q } = { bsyncShift b s with inputs := q } := by
  unfold bsyncShift
  dsimp only
  split
  · exact bsyncScan_inputs { s with bsync := pushBit b s.bsync } q
  · rfl

theorem diffStep_inputs (x : Bool) (s : State) (q : List Input) :
    diffStep x { s with inputs := q } = { diffStep x s with inputs := q } := by
  unfold diffStep
  dsimp only
  split
  · have h := bsyncShift_inputs (x ^^ s.diff.dPrev) (emit (.bit (x ^^ s.diff.dPrev)) s) q
    exact congrArg (fun t : State => { t with diff := { dPrev := x, dValid := true } }) h
  · rfl

theorem afterSymbol_inputs (a : Scalar) (s : State) (q : List Input) :
    afterSymbol a { s with inputs := q } = { afterSymbol a s with inputs := q } := by
  unfold afterSymbol
  dsimp only
  split
  · exact diffStep_inputs (rawSymbol a (recordErr (parity s.sync) a s.sync))
      (emit (.sym (rawSymbol a (recordErr (parity s.sync) a s.sync)))
        { s with sync := recordErr (parity s.sync) a s.sync }) q
  · rfl

theorem syncDump_inputs (lo : Sign) (s : State) (q : List Input) :
    syncDump lo { s with inputs := q } = { syncDump lo s with inputs := q } := by
  rw [syncDump_eq, syncDump_eq]
  dsimp only
  split
  · rw [afterSymbol_inputs]
  · rfl

theorem syncTick_inputs (bb : Scalar) (s : State) (q : List Input) :
    syncTick bb { s with inputs := q } = { syncTick bb s with inputs := q } := by
  have e : syncBeforeDump bb { s with inputs := q } = { syncBeforeDump bb s with inputs := q } := by
    have k : syncAdj bb (syncClock s).1 { s with inputs := q } = { syncAdj bb (syncClock s).1 s with inputs := q } := by
      unfold syncAdj
      dsimp only
      split <;> rfl
    show syncInteg bb (syncClock s).2 (syncAdj bb (syncClock s).1 { s with inputs := q }) = _
    rw [k]
    rfl
  have d := syncDump_inputs (syncClock s).2 (syncBeforeDump bb s) q
  rw [← e] at d
  exact congrArg
    (fun t : State => { t with sync := { t.sync with prevLo := (syncClock s).2, prevBb := bb } }) d

theorem pllTickcnt_inputs (iBb : Scalar) (s : State) (q : List Input) :
    pllTickcnt iBb { s with inputs := q } = { pllTickcnt iBb s with inputs := q } := by
  rw [pllTickcnt_eq, pllTickcnt_eq]
  dsimp only
  split
  · exact syncTick_inputs iBb { s with sync := { s.sync with n2 := advance s.sync.n2 s.cfg.dec2 } } q
  · rfl

theorem pllStep_inputs (y : Scalar) (s : State) (q : List Input) :
    pllStep y { s with inputs := q } = { pllStep y s with inputs := q } := by
  have e : pllAfter y { s with inputs := q } = pllAfter y s := by
    have n : ∀ t : State, (pllSnap { t with inputs := q }).pll = (pllSnap t).pll := by
      intro t
      unfold pllSnap
      dsimp only
      split <;> rfl
    let m := pllMix y (pllNco s)
    let e := pllErr m.2.1 m.2.2 m.1
    exact Prod.ext (n (pllFeedback e.2 e.1)) rfl
  rw [pllStep_eq, pllStep_eq, e]
  exact pllTickcnt_inputs (pllAfter y s).2 { s with pll := (pllAfter y s).1 } q

theorem demodStep_inputs (z : Cplx) (s : State) (q : List Input) :
    demodStep z { s with inputs := q } = { demodStep z s with inputs := q } := by
  have m : mixed z { s with inputs := q } = mixed z s := rfl
  have a : demodAfter z { s with inputs := q } = demodAfter z s := rfl
  rw [demodStep_eq, demodStep_eq, m, a]
  dsimp only
  split
  · exact pllStep_inputs (s.cfg.fmGain * s.cfg.num.arg ((mixed z s).mul s.demod.vPrev.conj))
      { s with demod := { demodAfter z s with vPrev := mixed z s } } q
  · rfl

theorem portEvent_inputs (f : State → State) (s : State) (q : List Input)
    (h : f { s with inputs := q } = { f s with inputs := q }) :
    portEvent f { s with inputs := q } = { portEvent f s with inputs := q } := by
  unfold portEvent
  dsimp only
  split
  · rfl
  · split
    · rfl
    · exact h

theorem groupWith_inputs (w : Word16) (arm : Station → Station) (g : GroupRest) (s : State) (q : List Input) :
    groupWith w arm g { s with inputs := q } = { groupWith w arm g s with inputs := q } := by
  rw [groupWith_eq, groupWith_eq]

end Sys2Proof.Machine
end

