-- ==== Sys2Proof/Tests/Slice0.lean ====
section
/-! SUPPORT. Tests of one step each against the worked examples and vectors of the spec (95_test_vectors.md), the
decoding of one written-out word for every encoding, and for every obligation with hypotheses a concrete state and
operands that meet them (the theorems `witness_…`). -/

namespace Sys2Proof.Tests

-- One theorem at a time: each `decide +kernel` waits for all earlier ones, and a waiting thread holds its stack.
set_option Elab.async false

open Sys2Proof.Machine

/-! ## Small states -/

/-- The configuration of program P5, with 22/7 for π and a discriminator gain that makes `arg j` give 1. -/
def cfgP5 : Cfg :=
  { fsIn := 228000, fOffset := 0, bw := 228000, fmGain := 7 / 11, bpf1 := .identity, lpfIq := .delay,
    lpfErr := .identity, pllBeta := 1 / 64, clkGain := 1 / 2, minLabels := 2, ptyNames := Vector.replicate 30 ['x'],
    num := { piNum := 21, piDen := 6, prims := 0 } }

/-- The configuration of vectors T40: a quarter turn a sample, `DEC1 = 4`. -/
def cfgT40 : Cfg :=
  { cfgP5 with fsIn := 1000000, fOffset := 250000, bw := 250000, fmGain := 1, lpfIq := .identity }

/-- The reset state of P5's configuration, in which every port event is accepted. -/
def s5 : State := State.s0 cfgP5

/-- π of both configurations. -/
def pi5 : Scalar := 22 / 7

/-- `s5` at a half-symbol decision (T42). -/
def atDecision (hs : Nat) (frame : Bool) (prev : Scalar) (e0 e1 : Nat) : State :=
  { s5 with sync := { s5.sync with hsCnt := hs, frame := frame, prevAcc := prev, err0 := e0, err1 := e1 } }

/-- `s5` with a bit window. -/
def withWin (win : BitVec 104) (nbits : Nat) : State := { s5 with bsync := { win := win, nbits := nbits } }

/-- The next state of an instruction, if it has one. -/
def after (i : Instr) (s : State) : Option State :=
  match exec i s with
  | .next t => some t
  | .fault _ => none
  | .refused _ => none

/-- The group of vector V3. -/
def winV3 : BitVec 104 := 0x152A3CA#26 ++ 0x000835F#26 ++ 0x38335E9#26 ++ 0x12D5402#26

/-- The rest of a group with only block D. -/
def onlyD (w : Word16) : GroupRest := { pos := 0, a := none, c := none, d := some w }

/-! ## Well-formedness: the one check refuses a window wider than its length -/

theorem test_wf_refuses_a_window_wider_than_16 : (Instr.syndrome 0x10000 16).wf = false := by decide
theorem test_wf_refuses_a_window_wider_than_26 : (Instr.syndrome 0x4000000 26).wf = false := by decide
theorem test_wf_accepts_the_widest_window : (Instr.syndrome 0x3FFFFFF 26).wf = true := by decide

/-! ## Decoding: the words of 30_encoding.md R91, R94, R96, bit by bit -/

theorem test_decode_strobes :
    decode (.strobes 0b100#3 default false) = .ok .reset ∧
    decode (.strobes 0b101#3 default true) = .ok .reset ∧
    decode (.strobes 0b111#3 default true) = .ok .reset ∧
    decode (.strobes 0b010#3 ⟨1, 2⟩ true) = .ok (.sample ⟨1, 2⟩) ∧
    decode (.strobes 0b001#3 default true) = .ok (.bit true) ∧
    decode (.strobes 0b000#3 default true) = .ok .idle ∧
    decode (.strobes 0b011#3 default true) = .ok .strobeReserved := by
  refine ⟨rfl, rfl, rfl, rfl, rfl, rfl, rfl⟩

theorem test_decode_syndromes :
    decode (.synCode 0b0101111111#10) = .ok .synA ∧
    decode (.synCode 0b0000001110#10) = .ok .synB ∧
    decode (.synCode 0b0100101111#10) = .ok .synC ∧
    decode (.synCode 0b1010010111#10) = .ok .synD ∧
    decode (.synCode 0b1011101100#10) = .ok .synCp ∧
    decode (.synCode 0b0011111100#10) = .error .notASyndromeCode := by
  refine ⟨rfl, rfl, rfl, rfl, rfl, rfl⟩

theorem test_decode_low_groups :
    decode (.wordB 0b0000011001010110#16 default) = .ok (.group0A true 0b10010 0b101 0b10 default) ∧
    decode (.wordB 0b0000111001010110#16 default) = .ok (.group0B true 0b10010 0b10110 default) ∧
    decode (.wordB 0b0001011001010110#16 default) = .ok (.group1A true 0b10010 0b10110 default) ∧
    decode (.wordB 0b0001111001010110#16 default) = .ok (.group1B true 0b10010 0b10110 default) ∧
    decode (.wordB 0b0010011001010110#16 default) = .ok (.group2A true 0b10010 true 0b0110 default) ∧
    decode (.wordB 0b0010111001010110#16 default) = .ok (.group2B true 0b10010 0b10110 default) ∧
    decode (.wordB 0b0011011001010110#16 default) = .ok (.group3A true 0b10010 0b10110 default) ∧
    decode (.wordB 0b0011111001010110#16 default) = .ok (.group3B true 0b10010 0b10110 default) ∧
    decode (.wordB 0b0100011001010110#16 default) = .ok (.group4A true 0b10010 0b10110 default) ∧
    decode (.wordB 0b0100111001010110#16 default) = .ok (.group4B true 0b10010 0b10110 default) ∧
    decode (.wordB 0b0101011001010110#16 default) = .ok (.group5A true 0b10010 0b10110 default) ∧
    decode (.wordB 0b0101111001010110#16 default) = .ok (.group5B true 0b10010 0b10110 default) ∧
    decode (.wordB 0b0110011001010110#16 default) = .ok (.group6A true 0b10010 0b10110 default) ∧
    decode (.wordB 0b0110111001010110#16 default) = .ok (.group6B true 0b10010 0b10110 default) ∧
    decode (.wordB 0b0111011001010110#16 default) = .ok (.group7A true 0b10010 0b10110 default) ∧
    decode (.wordB 0b0111111001010110#16 default) = .ok (.group7B true 0b10010 0b10110 default) := by
  refine ⟨rfl, rfl, rfl, rfl, rfl, rfl, rfl, rfl, rfl, rfl, rfl, rfl, rfl, rfl, rfl, rfl⟩

theorem test_decode_high_groups :
    decode (.wordB 0b1000011001010110#16 default) = .ok (.group8A true 0b10010 0b10110 default) ∧
    decode (.wordB 0b1000111001010110#16 default) = .ok (.group8B true 0b10010 0b10110 default) ∧
    decode (.wordB 0b1001011001010110#16 default) = .ok (.group9A true 0b10010 0b10110 default) ∧
    decode (.wordB 0b1001111001010110#16 default) = .ok (.group9B true 0b10010 0b10110 default) ∧
    decode (.wordB 0b1010011001010110#16 default) = .ok (.group10A true 0b10010 0b10110 default) ∧
    decode (.wordB 0b1010111001010110#16 default) = .ok (.group10B true 0b10010 0b10110 default) ∧
    decode (.wordB 0b1011011001010110#16 default) = .ok (.group11A true 0b10010 0b10110 default) ∧
    decode (.wordB 0b1011111001010110#16 default) = .ok (.group11B true 0b10010 0b10110 default) ∧
    decode (.wordB 0b1100011001010110#16 default) = .ok (.group12A true 0b10010 0b10110 default) ∧
    decode (.wordB 0b1100111001010110#16 default) = .ok (.group12B true 0b10010 0b10110 default) ∧
    decode (.wordB 0b1101011001010110#16 default) = .ok (.group13A true 0b10010 0b10110 default) ∧
    decode (.wordB 0b1101111001010110#16 default) = .ok (.group13B true 0b10010 0b10110 default) ∧
    decode (.wordB 0b1110011001010110#16 default) = .ok (.group14A true 0b10010 0b10110 default) ∧
    decode (.wordB 0b1110111001010110#16 default) = .ok (.group14B true 0b10010 0b10110 default) ∧
    decode (.wordB 0b1111011001010110#16 default) = .ok (.group15A true 0b10010 0b10110 default) ∧
    decode (.wordB 0b1111111001010110#16 default) = .ok (.group15B true 0b10010 0b10110 default) := by
  refine ⟨rfl, rfl, rfl, rfl, rfl, rfl, rfl, rfl, rfl, rfl, rfl, rfl, rfl, rfl, rfl, rfl⟩

theorem test_table_words :
    decodeTableWord 8 4 = some .reset ∧ decodeTableWord 16 0x2EC = some .synCp ∧
    decodeTableWord 16 0xF800 = some (.group15B false 0 0 default) ∧ decodeTableWord 0 0 = none := by
  refine ⟨rfl, rfl, rfl, rfl⟩

/-! ## Stage 1 (T40) -/

theorem test_demodMix_second_sample :
    ((after (.demodMix ⟨1, 0⟩) { State.s0 cfgT40 with demod := { (State.s0 cfgT40).demod with theta1 := pi5 / 2 } }).map
      fun t => (t.result, t.demod.theta1)) = some (.cplx ⟨0, -1⟩, pi5) := by decide +kernel

theorem test_demodMix_negative_offset_stays_in_range :
    ((after (.demodMix ⟨1, 0⟩) (State.s0 { cfgT40 with fOffset := -250000 })).map
      fun t => (t.result, t.demod.theta1)) = some (.cplx ⟨1, 0⟩, 3 * pi5 / 2) := by decide +kernel

theorem test_demodDecim_wraps_at_dec1 :
    ((after .demodDecim { State.s0 cfgT40 with demod := { (State.s0 cfgT40).demod with n1 := 3 } }).map
      fun t => (t.result, t.demod.n1)) = some (.keep false, 0) := by decide +kernel

theorem test_demodDisc_of_a_negative_real :
    ((after (.demodDisc ⟨-1, 0⟩) { State.s0 cfgT40 with demod := { (State.s0 cfgT40).demod with vPrev := ⟨1, 0⟩ } }).map
      fun t => (t.result, t.demod.vPrev)) = some (.real pi5, ⟨-1, 0⟩) := by decide +kernel

theorem test_demodDisc_first_kept_sample :
    ((after (.demodDisc ⟨1, 0⟩) (State.s0 cfgT40)).map fun t => (t.result, t.demod.vPrev)) =
      some (.real 0, ⟨1, 0⟩) := by decide +kernel

theorem test_demodStep_second_sample_is_not_kept :
    ((after (.demodStep ⟨0, 1⟩)
      { State.s0 cfgT40 with demod := { (State.s0 cfgT40).demod with n1 := 1, theta1 := pi5 / 2 } }).map
      fun t => (t.demod.n1, t.demod.vPrev, t.pll.phi)) = some (2, ⟨0, 0⟩, 0) := by decide +kernel

/-! ## Stage 2 (T41) -/

theorem test_pllNco_quarter_turn : ((after .pllNco s5).map fun t => t.pll.phi) = some (pi5 / 2) := by decide +kernel

theorem test_pllMix_cosine_is_in_phase :
    ((after (.pllMix (1 / 2)) (State.s0 cfgT40)).map fun t => t.result) = some (.arms (1 / 2) 0) := by decide +kernel

theorem test_pllErr_example : ((after (.pllErr (1 / 2) (-1 / 5)) s5).map fun t => t.result) = some (.real (-1 / 10)) := by
  decide +kernel

theorem test_pllFeedback_example :
    ((after (.pllFeedback (-1 / 10)) (State.s0 { cfgP5 with pllBeta := 2 / 125 })).map
      fun t => (t.pll.phi, t.pll.fEst)) = some (2 / 1250, 57000 + 1 / 1250) := by decide +kernel

theorem test_pllSnap_keeps_the_bound :
    ((after .pllSnap { s5 with pll := { s5.pll with fEst := 57012 } }).map fun t => t.pll.fEst) = some 57012 := by
  decide +kernel

theorem test_pllSnap_below_the_band :
    ((after .pllSnap { s5 with pll := { s5.pll with fEst := 569879 / 10 } }).map fun t => t.pll.fEst) = some 57000 := by
  decide +kernel

theorem test_pllTickcnt_wraps_at_dec2 :
    ((after (.pllTickcnt 1) { s5 with sync := { s5.sync with n2 := 31 } }).map fun t => (t.sync.n2, t.sync.acc)) =
      some (0, 0) := by decide +kernel

theorem test_pllStep_first_sample_is_a_tick :
    ((after (.pllStep 0) s5).map fun t => (t.pll.phi, t.sync.n2, t.sync.prevLo)) = some (pi5 / 2, 1, .plus) := by
  decide +kernel

theorem test_dec2_values :
    cfgP5.dec2 = 32 ∧ { cfgP5 with fsIn := 250000, bw := 250000 : Cfg }.dec2 = 35 ∧
    { cfgP5 with fsIn := 7125, bw := 7125 : Cfg }.dec2 = 1 ∧ { cfgP5 with fsIn := 7124, bw := 7124 : Cfg }.dec2 = 0 := by
  decide +kernel

/-! ## Stage 3 (T42) -/

theorem test_syncClock_odd_multiple_of_pi :
    ((after .syncClock { s5 with pll := { s5.pll with phi := 48 * pi5 } }).map fun t => t.result) =
      some (.clock pi5 .minus) := by decide +kernel

theorem test_syncClock_negative_phase :
    ((after .syncClock { s5 with sync := { s5.sync with clkOff := -1 / 10 } }).map fun t => t.result) =
      some (.clock (-1 / 10) .minus) := by decide +kernel

theorem test_syncAdj_late_clock :
    ((after (.syncAdj (-1) (97 * pi5 / 96)) { s5 with sync := { s5.sync with prevBb := 1 } }).map fun t => t.sync.clkOff) =
      some (-pi5 / 192) := by decide +kernel

theorem test_syncAdj_early_clock :
    ((after (.syncAdj (-1) (95 * pi5 / 96)) { s5 with sync := { s5.sync with prevBb := 1 } }).map fun t => t.sync.clkOff) =
      some (pi5 / 192) := by decide +kernel

theorem test_syncInteg_with_minus :
    ((after (.syncInteg (-1) .minus) { s5 with sync := { s5.sync with acc := 2 } }).map fun t => t.sync.acc) = some 3 := by
  decide +kernel

theorem test_syncDump_on_a_clock_transition :
    ((after (.syncDump .minus) { s5 with sync := { s5.sync with acc := 3 } }).map
      fun t => (t.sync.acc, t.sync.prevAcc, t.sync.hsCnt, t.out)) = some (0, 3, 1, [.sym true]) := by decide +kernel

theorem test_syncHalfsym_symbol_zero :
    ((after (.syncHalfsym (-11 / 10)) (atDecision 4 false (-4 / 5) 1 0)).map
      fun t => (t.sync.err0, t.sync.hsCnt, t.sync.prevAcc, t.out)) = some (1, 5, -11 / 10, [.sym false]) := by
  decide +kernel

theorem test_syncHalfsym_frame_selection :
    ((after (.syncHalfsym 1) (atDecision 799 false 1 37 2)).map
      fun t => (t.sync.hsCnt, t.sync.frame, t.sync.err0, t.sync.err1, t.out)) = some (0, true, 0, 0, []) := by
  decide +kernel

theorem test_syncHalfsym_zero_counts_as_positive :
    ((after (.syncHalfsym (-2)) (atDecision 0 false 0 0 0)).map fun t => (t.sync.err0, t.out)) =
      some (1, [.sym false]) := by decide +kernel

theorem test_syncFramesel_equal_counts_keep :
    ((after .syncFramesel (atDecision 0 false 0 5 5)).map fun t => (t.sync.frame, t.sync.err0)) = some (false, 0) := by
  decide +kernel

theorem test_syncFramesel_back_to_zero :
    ((after .syncFramesel (atDecision 0 true 0 3 9)).map fun t => t.sync.frame) = some false := by decide +kernel

theorem test_syncTick_remembers :
    ((after (.syncTick 1) s5).map fun t => (t.sync.prevBb, t.sync.prevLo, t.sync.acc)) = some (1, .plus, 1) := by
  decide +kernel

/-! ## Stage 4 (T43) -/

theorem test_diffStep_first_symbol_gives_no_bit :
    ((after (.diffStep true) s5).map fun t => (t.diff, t.out)) = some (⟨true, true⟩, []) := by decide +kernel

theorem test_diffStep_gives_the_xor :
    ((after (.diffStep false) { s5 with diff := ⟨true, true⟩ }).map fun t => (t.diff, t.out, t.bsync)) =
      some (⟨false, true⟩, [.bit true], ⟨1, 1⟩) := by decide +kernel

/-! ## Stage 5 (V1, T44) -/

theorem test_syndrome_of_the_offset_words :
    [252, 408, 360, 436, 848].map (fun m => (after (.syndrome m 26) s5).map fun t => t.result) =
      [some (.syndrome 383), some (.syndrome 14), some (.syndrome 303), some (.syndrome 663), some (.syndrome 748)] := by
  decide +kernel

theorem test_syndrome_wrong_length :
    ((after (.syndrome 5 25) s5).map fun t => (t.result, t.flags.fltConfig)) =
      some (.error .configurationError, true) := by decide +kernel

theorem test_crc16_vectors :
    [0x0000#16, 0x0001#16, 0x8000#16, 0xFFFF#16, 0x1234#16, 0x54A8#16, 0x4B55#16, 0xE0CD#16].map crc16 =
      [0, 441, 119, 205, 150, 822, 438, 129] := by decide +kernel

theorem test_classify_vectors :
    [0x152A3CA#26, 0x152A066#26, 0x00084E6#26, 0x38735E9#26, 0x1295402#26, 0x3FFFFFF#26, 383#26].map classify =
      [some .A, some .Cp, none, some .D, some .C, none, none] := by decide +kernel

theorem test_the_block_of_V3_is_its_vector : mkGroup 0x54A8 0x0020 0xE0CD 0x4B55 = winV3 := by decide +kernel

theorem test_bsyncShift_103rd_bit_does_not_scan :
    ((after (.bsyncShift true) (withWin (winV3 >>> 1) 102)).map fun t => (t.bsync.nbits, t.out)) = some (103, []) := by
  decide +kernel

theorem test_bsyncShift_104th_bit_reports :
    ((after (.bsyncShift false) (withWin (winV3 >>> 1) 103)).map fun t => (t.bsync.win, t.out.length, t.station.pi)) =
      some (winV3, 1, 0x54A8) := by decide +kernel

theorem test_bsyncScan_reports_V3 :
    ((after .bsyncScan (withWin winV3 104)).map fun t => groupMaps t.out) = some [⟨0, true, true, true, true⟩] := by
  decide +kernel

theorem test_bsyncScan_without_labels_is_a_SyncMiss :
    ((after .bsyncScan (withWin 0 300)).map fun t => t.out) = some [] := by decide +kernel

/-! ## Stage 6 (V4, V5, V6, T45) -/

theorem test_grpDecode_V3 :
    ((after (.grpDecode 0 true true true true) (withWin winV3 104)).map
      fun t => (t.station.pi, t.station.pty, t.station.name.toList.take 3)) = some (0x54A8, 1, [0x4B, 0x55, 0x5F]) := by
  decide +kernel

theorem test_grpDecode_without_block_B :
    ((after (.grpDecode 0 true false true true) (withWin winV3 104)).map
      fun t => (t.station.piValid, t.station.ptyValid, t.station.name.toList.take 2)) =
      some (true, false, [0x5F, 0x5F]) := by decide +kernel

theorem test_grpDecA : ((after (.grpDecA 0x54A8) s5).map fun t => (t.station.pi, t.station.piValid)) =
    some (0x54A8, true) := by decide +kernel

theorem test_grpDecB : ((after (.grpDecB 0x2437) s5).map fun t => (t.station.pty, t.result)) =
    some (1, .wordB 2 false true 1 0b10111) := by decide +kernel

theorem test_grpDecCd : ((after (.grpDecCd 0x4B55) s5).map fun t => t.result) = some (.chars 0x4B 0x55) := by
  decide +kernel

theorem test_group0A_last_slot :
    ((after (.group0A false 1 0 3 (onlyD 0x2121)) s5).map fun t => t.station.name.toList.drop 5) =
      some [0x5F, 0x21, 0x21] := by decide +kernel

theorem test_group0A_without_block_D :
    ((after (.group0A false 1 7 1 default) s5).map fun t => (t.station.name, t.station.pty)) =
      some (Vector.replicate 8 0x5F, 1) := by decide +kernel

theorem test_group2A_clear_without_C_and_D :
    ((after (.group2A false 1 true 0 default) { s5 with station := { s5.station with rt := Vector.replicate 64 0x41 } }).map
      fun t => t.station.rt) = some (Vector.replicate 64 0x5F) := by decide +kernel

theorem test_group2A_last_segment :
    ((after (.group2A false 1 true 15 { pos := 0, a := none, c := some 0x454E, d := some 0x440D }) s5).map
      fun t => t.station.rt.toList.drop 59) = some [0x5F, 0x45, 0x4E, 0x44, 0x0D] := by decide +kernel

theorem test_group2B_leaves_the_text :
    ((after (.group2B false 1 1 { pos := 0, a := none, c := some 0x4141, d := some 0x4141 }) s5).map
      fun t => (t.station.rt, t.station.pty)) = some (Vector.replicate 64 0x5F, 1) := by decide +kernel

theorem test_group4A_alarm :
    ((after (.group4A true 31 0 { pos := 0, a := some 0xFFFF, c := none, d := none }) s5).map
      fun t => (t.station.pi, (snapshotPtyName cfgP5 t.station).toOption)) =
      some (0xFFFF, some ['A', 'l', 'a', 'r', 'm']) := by decide +kernel

theorem test_piHex : piHex true 0x54A8 = ['5', '4', 'A', '8'] ∧ piHex false 0x54A8 = ['-', '-', '-', '-'] := by
  decide +kernel

theorem test_ptyName_32_is_a_ProtocolError :
    ((after (.ptyName (some 32)) s5).map fun t => (t.result, t.flags.fltProto, t.station == s5.station)) =
      some (.error .protocolError, true, true) := by decide +kernel

theorem test_groupTypeText : groupTypeText 0x0000 = ['0', 'A'] ∧ groupTypeText 0x2000 = ['2', 'A'] := by decide +kernel

theorem test_ptyName_names :
    [none, some 0, some 30, some 31].map (fun c => (after (.ptyName c) s5).map fun t => t.result) =
      [some (.text ['N', 'o', 'n', 'e']), some (.text ['N', 'o', 'n', 'e']), some (.text ['x']),
        some (.text ['A', 'l', 'a', 'r', 'm'])] := by decide +kernel

/-! ## Port events (T46) -/

theorem test_reset_with_five_labels_is_refused :
    ((after .reset { s5 with cfgIn := { cfgP5 with minLabels := 5 } }).map fun t => (t.flags.refused, t.cfgOk)) =
      some (true, false) := by decide +kernel

theorem test_after_an_illegal_configuration_bits_are_refused :
    ((after (.bit true) { s5 with cfgOk := false }).map fun t => (t.flags.refused, t.bsync.nbits)) =
      some (true, 0) := by decide +kernel

theorem test_strobeReserved :
    ((after .strobeReserved s5).map fun t => (t.flags.refused, t.bsync.nbits, t.out)) = some (true, 0, []) := by
  decide +kernel

theorem test_a_run_after_an_error_is_ignored_until_reset :
    ((after (.bit true) { s5 with flags := { s5.flags with fltConfig := true } }).map fun t => t.bsync.nbits) = some 0 ∧
    ((after .reset { s5 with flags := { s5.flags with fltConfig := true } }).map fun t => t.flags.fltConfig) =
      some false := by decide +kernel

theorem test_sample_runs_the_demodulator :
    ((after (.sample ⟨0, 1⟩) { s5 with demod := { s5.demod with vPrev := ⟨1, 0⟩ } }).map
      fun t => (t.pll.lpfI, t.pll.lpfQ, t.sync.n2)) = some ([0], [1], 1) := by decide +kernel

theorem test_step_takes_the_input :
    (match step (s5.present (.strobes 0b001#3 default true)) with
      | .next t => (t.inputs == [] && t.bsync == ⟨1, 1⟩)
      | _ => false) = true := by decide +kernel

/-! ## Witnesses -/

theorem witness_accepting : s5.accepting := ⟨rfl, rfl⟩

theorem witness_cfgIn_legal : s5.cfgIn.legal := by decide +kernel

theorem witness_cfgIn_illegal : ¬ { s5 with cfgIn := { cfgP5 with minLabels := 0 } : State }.cfgIn.legal := by
  decide +kernel

/-- Legal: the tick rate itself (`DEC2 = 1`) with 1 and with 4 labels. Illegal: one hertz less, a bandwidth above the
rate (`DEC1 = 0`), 0 and 5 labels. -/
theorem witness_ResetTakesEveryElementToItsResetValue :
    (0b100#3).getLsbD 2 = true ∧ s5.cfgIn.legal ∧
      { cfgP5 with fsIn := 7125, bw := 7125, minLabels := 1 : Cfg }.legal ∧
      { cfgP5 with fsIn := 7125, bw := 7125, minLabels := 4 : Cfg }.legal ∧
      ¬ { cfgP5 with fsIn := 7124, bw := 7124 : Cfg }.legal ∧ ¬ { cfgP5 with bw := 228001 : Cfg }.legal ∧
      ¬ { cfgP5 with minLabels := 0 : Cfg }.legal ∧
      ¬ { s5 with cfgIn := { cfgP5 with minLabels := 5 } : State }.cfgIn.legal := by decide +kernel

theorem witness_SampleRunsTheDemodulator : s5.accepting := witness_accepting

theorem witness_BitGoesStraightToTheScanner : (withWin (winV3 >>> 1) 103).accepting := ⟨rfl, rfl⟩

theorem witness_IdleChangesNothing : s5.accepting := witness_accepting

theorem witness_ReservedStrobeSetsOnlyTheMark : s5.accepting := witness_accepting

theorem witness_WrongWindowLengthStopsTheBlock : (25 : Nat) ≠ 16 ∧ (25 : Nat) ≠ 26 ∧ s5.cfgOk = true := by
  refine ⟨by decide, by decide, rfl⟩

theorem witness_DemodDecimKeepsEveryDec1thSample :
    1 ≤ (State.s0 cfgT40).cfg.dec1 ∧ (State.s0 cfgT40).demod.n1 = 0 := by decide +kernel

theorem witness_DemodDiscMeasuresThePhaseStep :
    let p := s5.demod.vPrev
    (⟨1 * p.re + 1 * p.im, 1 * p.re - 1 * p.im⟩ : Cplx) = ⟨0, 0⟩ := by decide +kernel

theorem witness_DemodStepRunsItsPartsInOrder :
    s5.demod.n1 = 0 ∧ { s5 with demod := { s5.demod with n1 := 3 } : State }.demod.n1 ≠ 0 := by decide +kernel

theorem witness_PllTickcntFiresEveryDec2thCall :
    s5.sync.n2 = 0 ∧ { s5 with sync := { s5.sync with n2 := 31 } : State }.sync.n2 ≠ 0 := by decide +kernel

theorem witness_SyncAdjMovesTheOffsetAgainstTheError :
    sgn (-1) ≠ sgn s5.sync.prevBb ∧ sgn 0 = sgn s5.sync.prevBb := by decide +kernel

theorem witness_SyncDumpFiresOnAClockTransition : Sign.plus = s5.sync.prevLo ∧ Sign.minus ≠ s5.sync.prevLo := by
  decide +kernel

/-- Decision 799 wraps and is not in frame 0; decision 798 does not wrap and is in frame 0. -/
theorem witness_SyncHalfsymDecides :
    (decide ((atDecision 799 false 1 37 2).sync.hsCnt % 2 = 1) ≠ (atDecision 799 false 1 37 2).sync.frame ∧
      ((atDecision 799 false 1 37 2).sync.hsCnt + 1) % 800 = 0) ∧
    (decide ((atDecision 798 false 1 37 2).sync.hsCnt % 2 = 1) = (atDecision 798 false 1 37 2).sync.frame ∧
      ((atDecision 798 false 1 37 2).sync.hsCnt + 1) % 800 ≠ 0) := by decide +kernel

theorem witness_DiffStepEmitsTheXorOfTwoSymbols :
    s5.diff.dValid = false ∧ { s5 with diff := ⟨true, true⟩ : State }.diff.dValid = true := by decide +kernel

theorem witness_ComplementedSymbolsGiveTheSameBits :
    ∃ t : State, runInstrs ([true, true, false].map .diffStep) s5 = some t := ⟨_, rfl⟩

theorem witness_DifferentialRoundTrip : s5.diff.dValid = false := rfl

theorem witness_SyndromeIsTheXorOfTheTable : 0x3FFFFFF < 2 ^ 26 ∧ 0xFFFF < 2 ^ 16 := by decide

/-- A block of label C, and the two bits of the pair (18, 19). -/
theorem witness_FlippedBitsAreDetectedWithTheListedExceptions :
    classify 360#26 = some .C ∧ 18 < 26 ∧ 18 < 19 ∧ 19 < 26 := by decide +kernel

theorem witness_BsyncShiftAppendsTheBit :
    (withWin 0 102).bsync.nbits + 1 < 104 ∧ 104 ≤ (withWin 0 103).bsync.nbits + 1 := by decide +kernel

/-- The three clauses at their boundary values: 103 bits; 104 bits and no label; 104 bits and four labels. -/
theorem witness_BsyncScanReportsEnoughLabels :
    (withWin 0 103).bsync.nbits < 104 ∧
    (104 ≤ (withWin 0 104).bsync.nbits ∧ ((candidate (withWin 0 104).bsync.win).map 0).count < cfgP5.minLabels) ∧
    (104 ≤ (withWin winV3 104).bsync.nbits ∧
      cfgP5.minLabels ≤ ((candidate (withWin winV3 104).bsync.win).map 0).count) := by decide +kernel

/-- With 104 bits: all four words held at position 0; block D one bit short at position 11 and just held at 10; with
105 bits block A one bit too old at position 0. -/
theorem witness_GrpDecodeDispatchesOnBlockB :
    (0 + 78 + 16 ≤ (withWin winV3 104).bsync.nbits ∧ (withWin winV3 104).bsync.nbits ≤ 0 + 104) ∧
    10 + 78 + 16 ≤ (withWin winV3 104).bsync.nbits ∧ ¬ 11 + 78 + 16 ≤ (withWin winV3 104).bsync.nbits ∧
    ¬ (withWin winV3 105).bsync.nbits ≤ 0 + 104 := by decide +kernel

theorem test_grpDecode_at_both_ends_of_the_window :
    (after (.grpDecode 10 false false false true) (withWin winV3 104)).isSome = true ∧
    after (.grpDecode 11 false false false true) (withWin winV3 104) = none ∧
    (after (.grpDecode 1 true false false false) (withWin winV3 105)).isSome = true ∧
    after (.grpDecode 0 true false false false) (withWin winV3 105) = none := by decide +kernel

theorem witness_Group0AWritesTheNameSlot :
    (default : GroupRest).d = none ∧ (onlyD 0x4B55).d = some (0x4B#8 ++ 0x55#8) := by decide +kernel

/-- Segment 15: the first character, the last one before the slot, the pair of C and the pair of D. -/
theorem witness_Group2AClearsThenWritesTheText :
    (default : GroupRest).c = none ∧ (default : GroupRest).d = none ∧
    { onlyD 0x440D with c := some 0x454E : GroupRest }.c = some (0x45#8 ++ 0x4E#8) ∧
    (onlyD 0x440D).d = some (0x44#8 ++ 0x0D#8) ∧ (59 : Fin 64).val < 4 * (15#4).toNat ∧
    (60 : Fin 64).val = 4 * (15#4).toNat ∧ (63 : Fin 64).val = 4 * (15#4).toNat + 3 := by decide +kernel

theorem witness_OtherGroupsLeaveTheTextAlone :
    Instr.group15B true 31 0 default ∈ Instr.otherGroups true 31 0 default := by decide +kernel

theorem witness_PtyNameLooksUpOrRejects : 32 ≤ 32 := by decide

theorem witness_DecodeUndoesEncode :
    encode (.group2A true 1 true 7 default) = some (.wordB 0x2437 default) := by rfl

theorem witness_EncodeUndoesDecode :
    decode (.synCode 14) = .ok .synB ∧ (0b010#3).getLsbD 2 = false := ⟨rfl, rfl⟩

theorem witness_StepRunsTheDecodedInstruction :
    decode (.wordB 0x2437 default) = .ok (.group2A true 1 true 7 default) ∧ s5.inputs = [] ∧
      (382#10).toNat ∉ [383, 14, 303, 663, 748] := ⟨rfl, rfl, by decide⟩

/-- The statement has no hypotheses; two inputs in the queue, run one step at a time. -/
theorem witness_BatchBoundariesAreInvisible :
    ((runSteps 2 { s5 with inputs := [bitEvent true, bitEvent false] }).map
      fun r => (r.1.bsync, r.1.inputs.length, r.2)) = some (⟨2, 2⟩, 0, []) := by decide +kernel

theorem witness_EveryStepKeepsTheInvariant : s5.Inv ∧ ∃ t, step (s5.present (bitEvent true)) = .next t := by
  refine ⟨⟨?_, ?_, ?_, ?_, ?_, ?_, ?_, ?_, ?_, ?_⟩, _, rfl⟩ <;> decide +kernel

theorem witness_PrimitivesObeyTheirLaws :
    (0 : Scalar) < 2 ∧ (0 : Scalar) ≤ 1 ∧ (1 : Scalar) < 2 ∧ (5 : Scalar) - 1 = (2 : Int) * 2 ∧
      sgn 0 = .plus ∧ sgn (-1) = .minus := by decide +kernel

theorem witness_PhaseReductionsAreInvisible : s5.accepting := witness_accepting

/-- Two different accepting states that agree on every stage. -/
theorem witness_DataFlowsStrictlyForward :
    s5.accepting ∧ { s5 with result := .text [] : State }.accepting ∧ s5.cfg = { s5 with result := .text [] : State }.cfg ∧
      s5.demod = { s5 with result := .text [] : State }.demod ∧ s5.station = { s5 with result := .text [] : State }.station :=
  ⟨⟨rfl, rfl⟩, ⟨rfl, rfl⟩, rfl, rfl, rfl⟩

theorem witness_SampleEmitsInOrder : s5.accepting := witness_accepting

/-- The last bit of V3 changes the name; the last bit of a 2A group changes the radio text. -/
theorem witness_TextChangesOnlyThroughItsGroup :
    ((after (.bit false) (withWin (winV3 >>> 1) 103)).map
      fun t => t.station.name == (withWin (winV3 >>> 1) 103).station.name) = some false ∧
    ((after (.bit true) (withWin (mkGroup 0x54A8 0x2021 0x6F20 0x576F >>> 1) 103)).map
      fun t => t.station.rt == s5.station.rt) = some false := by decide +kernel

theorem witness_OnlyResetClearsAFlag :
    Instr.strobeReserved ≠ .reset ∧ ∃ t, exec .strobeReserved s5 = .next t := ⟨by decide, _, rfl⟩

theorem witness_NoStepRaisesAnError :
    ∃ t, step { s5 with flags := ⟨true, true, false⟩ } = .next t ∧ t.flags.fltConfig = true ∧ t.flags.fltProto = true :=
  ⟨_, rfl, rfl, rfl⟩

theorem witness_ShiftedBitsReportTheBatchGroups : s5.accepting ∧ s5.bsync.nbits = 0 := ⟨⟨rfl, rfl⟩, rfl⟩

theorem witness_WindowHoldsTheLast104Bits : s5.accepting ∧ (List.replicate 104 true).length = 104 :=
  ⟨⟨rfl, rfl⟩, by simp⟩

theorem witness_OneWellFormedGroupIsReportedOnce : cfgP5.minLabels ≤ 4 := by decide

end Sys2Proof.Tests
end

/-! SUPPORT. The primitives of the analog half obey their laws (00_scope.md R11). -/

namespace Sys2Proof

theorem fmodp_eq_self {r m : Scalar} (h0 : 0 ≤ r) (hm : r < m) : fmodp r m = r := by
  have hpos : 0 < m := h0.trans_lt hm
  have hfloor : (r / m).floor = 0 :=
    Int.floor_eq_zero_iff.mpr ⟨div_nonneg h0 hpos.le, (div_lt_one hpos).mpr hm⟩
  simp [fmodp, hfloor]

theorem sub_fmodp (x m : Scalar) : x - fmodp x m = ((x / m).floor : Scalar) * m := by
  unfold fmodp
  ring

/-- The representative in `[0, m)` is unique: shifting it by a multiple of `m` gives back `x`. -/
theorem eq_fmodp {x r m : Scalar} (h0 : 0 ≤ r) (hm : r < m) {k : Int} (hk : x - r = k * m) :
    r = fmodp x m := by
  have hx : x = r + m * k := by linarith
  calc r = fmodp r m := (fmodp_eq_self h0 hm).symm
    _ = fmodp (r + m * k) m := (fmodp_add_mul_int r (h0.trans_lt hm) k).symm
    _ = fmodp x m := by rw [hx]

@[simp] theorem sgn_eq_plus_iff {x : Scalar} : sgn x = .plus ↔ 0 ≤ x := by
  simp [sgn]

@[simp] theorem sgn_eq_minus_iff {x : Scalar} : sgn x = .minus ↔ x < 0 := by
  simp [sgn]

theorem NumSys.two_pi_pos (n : NumSys) : 0 < 2 * n.pi := mul_pos two_pos n.pi_pos

@[simp] theorem NumSys.arg_zero (n : NumSys) : n.arg ⟨0, 0⟩ = 0 := by simp [NumSys.arg]

/-- On an axis the angle is one of `0`, `π`, `±π/2`; off the axes it is `π` minus a remainder in `[0, 2π)`. -/
theorem NumSys.arg_mem_Ioc (n : NumSys) (z : Cplx) : n.arg z ∈ Set.Ioc (-n.pi) n.pi := by
  have hpi := n.pi_pos
  unfold NumSys.arg
  split_ifs
  · exact ⟨neg_neg_of_pos hpi, hpi.le⟩
  · constructor <;> linarith
  · constructor <;> linarith
  · constructor <;> linarith
  · have hlo := fmodp_nonneg (x := n.pi - Config.argOf n.prims z) n.two_pi_pos
    have hhi := fmodp_lt (x := n.pi - Config.argOf n.prims z) n.two_pi_pos
    constructor <;> linarith

theorem NumSys.cos_add_two_pi_mul_int (n : NumSys) (x : Scalar) (k : Int) :
    n.cos (x + 2 * n.pi * k) = n.cos x :=
  n.cos_congr (fmodp_add_mul_int x n.two_pi_pos k)

theorem NumSys.sin_add_two_pi_mul_int (n : NumSys) (x : Scalar) (k : Int) :
    n.sin (x + 2 * n.pi * k) = n.sin x :=
  n.sin_congr (fmodp_add_mul_int x n.two_pi_pos k)

/-- Settles O51, one conjunct per primitive of R11. -/
theorem primitivesObeyTheirLaws : Obligations.PrimitivesObeyTheirLaws := by
  unfold Obligations.PrimitivesObeyTheirLaws
  refine ⟨fun x m hm => ⟨fmodp_nonneg hm, fmodp_lt hm, ⟨_, sub_fmodp x m⟩, ?_⟩,
    fun _ => ⟨sgn_eq_plus_iff, sgn_eq_minus_iff⟩,
    fun n => ⟨n.pi_pos, n.arg_zero, n.arg_mem_Ioc, ?_⟩⟩
  · rintro r h0 hlt ⟨k, hk⟩
    exact eq_fmodp h0 hlt hk
  · exact fun x k => ⟨n.cos_add_two_pi_mul_int x k, n.sin_add_two_pi_mul_int x k⟩

end Sys2Proof

/-! SUPPORT. Every step keeps the ranges of the state (10_state.md R51), and the state after reset meets them. -/

namespace Sys2Proof.Machine

/-- The error counts of stage 3 against the decisions of the window so far (R180, R182, R183). -/
structure Sync.CountsOk (y : Sync) : Prop where
  hsLt   : y.hsCnt < 800
  err0Le : y.err0 ≤ (y.hsCnt + 1) / 2
  err1Le : y.err1 ≤ y.hsCnt / 2

theorem State.Inv.countsOk {s : State} (h : s.Inv) : s.sync.CountsOk := ⟨h.hsLt, h.err0Le, h.err1Le⟩

/-- The invariant reads the configuration and the stages 1 to 3 only. -/
theorem State.Inv.congr {s t : State} (h : s.Inv) (cfg : t.cfg = s.cfg) (demod : t.demod = s.demod)
    (pll : t.pll = s.pll) (sync : t.sync = s.sync) : t.Inv := by
  obtain ⟨⟩ := h
  constructor <;> simpa only [cfg, demod, pll, sync]

theorem advance_lt (n : Nat) {m : Nat} (h : 1 ≤ m) : advance n m < m := Nat.mod_lt _ h

/-! ## Stage 3 -/

@[simp] theorem recordErr_hsCnt (k : Bool) (a : Scalar) (y : Sync) : (recordErr k a y).hsCnt = y.hsCnt := by
  unfold recordErr
  split_ifs <;> rfl

@[simp] theorem recordErr_n2 (k : Bool) (a : Scalar) (y : Sync) : (recordErr k a y).n2 = y.n2 := by
  unfold recordErr
  split_ifs <;> rfl

/-- An even decision can add to `err0` only (R179, R180). -/
theorem recordErr_err0_le (a : Scalar) (y : Sync) :
    (recordErr (parity y) a y).err0 ≤ y.err0 + (1 - y.hsCnt % 2) := by
  unfold recordErr
  split_ifs with _ hk
  · exact Nat.le_add_right ..
  · have : ¬ y.hsCnt % 2 = 1 := by simpa [parity] using hk
    simp only
    omega
  · exact Nat.le_add_right ..

/-- An odd decision can add to `err1` only (R179, R180). -/
theorem recordErr_err1_le (a : Scalar) (y : Sync) : (recordErr (parity y) a y).err1 ≤ y.err1 + y.hsCnt % 2 := by
  unfold recordErr
  split_ifs with _ hk
  · have : y.hsCnt % 2 = 1 := by simpa [parity] using hk
    simp only
    omega
  · exact Nat.le_add_right ..
  · exact Nat.le_add_right ..

/-- The 800th decision clears the counts; any other keeps the recorded ones (R182, R183). -/
theorem syncAfterHalfsym_counts (a : Scalar) (y : Sync) :
    (syncAfterHalfsym a y).n2 = y.n2 ∧ (syncAfterHalfsym a y).hsCnt = advance y.hsCnt 800 ∧
      ((syncAfterHalfsym a y).err0 = 0 ∧ (syncAfterHalfsym a y).err1 = 0 ∨
        advance y.hsCnt 800 ≠ 0 ∧ (syncAfterHalfsym a y).err0 = (recordErr (parity y) a y).err0 ∧
          (syncAfterHalfsym a y).err1 = (recordErr (parity y) a y).err1) := by
  unfold syncAfterHalfsym
  simp only [recordErr_hsCnt]
  split
  · exact ⟨recordErr_n2 .., rfl, .inl ⟨rfl, rfl⟩⟩
  next hwrap => exact ⟨recordErr_n2 .., rfl, .inr ⟨hwrap, rfl, rfl⟩⟩

theorem syncAfterHalfsym_countsOk (a : Scalar) {y : Sync} (h : y.CountsOk) : (syncAfterHalfsym a y).CountsOk := by
  obtain ⟨hs, h0, h1⟩ := h
  have hlt := advance_lt y.hsCnt (m := 800) (by decide)
  obtain ⟨-, ehs, ⟨e0, e1⟩ | ⟨hne, e0, e1⟩⟩ := syncAfterHalfsym_counts a y
  · constructor <;> omega
  · have hnext : advance y.hsCnt 800 = y.hsCnt + 1 := by
      unfold advance at hne ⊢
      omega
    have := recordErr_err0_le a y
    have := recordErr_err1_le a y
    constructor <;> omega

theorem syncAfterDump_countsOk (lo : Sign) {y : Sync} (h : y.CountsOk) : (syncAfterDump lo y).CountsOk := by
  unfold syncAfterDump
  split
  · have k := syncAfterHalfsym_countsOk y.acc h
    exact ⟨k.hsLt, k.err0Le, k.err1Le⟩
  · exact h

theorem syncAfterDump_n2 (lo : Sign) (y : Sync) : (syncAfterDump lo y).n2 = y.n2 := by
  unfold syncAfterDump
  split
  · exact (syncAfterHalfsym_counts y.acc y).1
  · rfl

/-- Before the dump a tick moves the clock offset and the accumulator only (R174, R175). -/
theorem syncBeforeDump_sync (bb : Scalar) (s : State) :
    ∃ off acc, (syncBeforeDump bb s).sync = { s.sync with clkOff := off, acc := acc } := by
  unfold syncBeforeDump syncAdj
  split <;> exact ⟨_, _, rfl⟩

theorem syncTick_countsOk (bb : Scalar) {s : State} (h : s.sync.CountsOk) :
    (syncTick bb s).sync.CountsOk ∧ (syncTick bb s).sync.n2 = s.sync.n2 := by
  obtain ⟨off, acc, e⟩ := syncBeforeDump_sync bb s
  have k : (syncBeforeDump bb s).sync.CountsOk := e ▸ ⟨h.hsLt, h.err0Le, h.err1Le⟩
  have kd := syncAfterDump_countsOk (syncClock s).2 k
  rw [syncTick_eq]
  simp only [syncDump_sync]
  exact ⟨⟨kd.hsLt, kd.err0Le, kd.err1Le⟩, (syncAfterDump_n2 ..).trans (by rw [e])⟩

/-! ## Stage 2 -/

theorem pllTickcnt_countsOk (iBb : Scalar) {s : State} (h : s.sync.CountsOk) :
    (pllTickcnt iBb s).sync.CountsOk ∧ (pllTickcnt iBb s).sync.n2 = advance s.sync.n2 s.cfg.dec2 := by
  have k : { s.sync with n2 := advance s.sync.n2 s.cfg.dec2 : Sync }.CountsOk := ⟨h.hsLt, h.err0Le, h.err1Le⟩
  rw [pllTickcnt_eq]
  dsimp only
  split
  · exact syncTick_countsOk iBb (s := { s with sync := { s.sync with n2 := advance s.sync.n2 s.cfg.dec2 } }) k
  · exact ⟨k, rfl⟩

/-- PLL.SNAP brings the estimate into the tolerance band (R155). -/
theorem pllSnap_fEst_mem (s : State) :
    57000 - 12 ≤ (pllSnap s).pll.fEst ∧ (pllSnap s).pll.fEst ≤ 57000 + 12 := by
  unfold pllSnap
  split_ifs with hout
  · norm_num
  · simpa [outsideBand, and_comm] using hout

theorem pllStep_inv (y : Scalar) {s : State} (h : s.Inv) : (pllStep y s).Inv := by
  have hcfg := (pllStep_host y s).cfg
  obtain ⟨hdemod, hpll⟩ := pllStep_earlier y s
  obtain ⟨hcounts, hn2⟩ := pllTickcnt_countsOk (pllAfter y s).2 (s := { s with pll := (pllAfter y s).1 }) h.countsOk
  rw [← pllStep_eq] at hcounts hn2
  have hband : 57000 - 12 ≤ (pllAfter y s).1.fEst ∧ (pllAfter y s).1.fEst ≤ 57000 + 12 := pllSnap_fEst_mem _
  have ⟨_, hdec2, _⟩ := h.cfgLegal
  exact {
    cfgLegal := hcfg ▸ h.cfgLegal
    n1Lt := by rw [hdemod, hcfg]; exact h.n1Lt
    n2Lt := by rw [hn2, hcfg]; exact advance_lt _ hdec2
    hsLt := hcounts.hsLt
    err0Le := hcounts.err0Le
    err1Le := hcounts.err1Le
    fEstLo := hpll ▸ hband.1
    fEstHi := hpll ▸ hband.2
    thetaLo := hdemod ▸ h.thetaLo
    thetaHi := by rw [hdemod, hcfg]; exact h.thetaHi }

/-! ## Stage 1 -/

/-- The mixer's phase is reduced and the decimator counts modulo DEC1 (R133, R134). -/
theorem demodAfter_inv (z : Cplx) (v : Cplx) {s : State} (h : s.Inv) :
    { s with demod := { demodAfter z s with vPrev := v } }.Inv := by
  obtain ⟨hdec1, -⟩ := h.cfgLegal
  exact { h with
    n1Lt := advance_lt _ hdec1
    thetaLo := fmodp_nonneg s.cfg.num.two_pi_pos
    thetaHi := fmodp_lt s.cfg.num.two_pi_pos }

theorem demodStep_inv (z : Cplx) {s : State} (h : s.Inv) : (demodStep z s).Inv := by
  rw [demodStep_eq]
  split
  · exact pllStep_inv _ (demodAfter_inv z _ h)
  · exact demodAfter_inv z (demodAfter z s).vPrev h

/-! ## Port events and table words -/

/-- Every reset value lies in its range (R340). -/
theorem s0_inv {c : Cfg} (h : c.legal) : (State.s0 c).Inv := by
  have ⟨hdec1, hdec2, _⟩ := h
  exact {
    cfgLegal := h
    n1Lt := hdec1
    n2Lt := hdec2
    hsLt := Nat.zero_lt_succ _
    err0Le := Nat.zero_le _
    err1Le := Nat.zero_le _
    fEstLo := by norm_num [State.s0]
    fEstHi := by norm_num [State.s0]
    thetaLo := le_rfl
    thetaHi := c.num.two_pi_pos }

theorem raise_inv (e : Cause) {s : State} (h : s.Inv) : (raise e s).Inv :=
  h.congr (by simp) (by simp) (by simp) (by simp)

theorem resetEvent_inv {s : State} (h : s.Inv) : (resetEvent s).Inv := by
  unfold resetEvent
  split
  case isTrue hlegal => exact (s0_inv hlegal).congr rfl rfl rfl rfl
  case isFalse => exact h.congr rfl rfl rfl rfl

theorem bsyncShift_inv (b : Bool) {s : State} (h : s.Inv) : (bsyncShift b s).Inv := by
  have k := bsyncShift_leaves b s
  exact h.congr k.cfg k.demod k.pll k.sync

theorem groupWith_inv (w : Word16) (arm : Station → Station) (g : GroupRest) {s : State} (h : s.Inv) :
    (groupWith w arm g s).Inv := by
  rw [groupWith_eq]
  exact h.congr rfl rfl rfl rfl

theorem portEvent_inv {f : State → State} {s : State} (hf : (f s).Inv) (h : s.Inv) : (portEvent f s).Inv := by
  rcases portEvent_cases f s with ⟨-, e⟩ | ⟨-, -, e⟩ | ⟨-, e⟩ <;> rw [e]
  · exact raise_inv _ h
  · exact h
  · exact hf

/-- A strobe vector is one of the five port events (R91). -/
theorem exec_decodeStrobe (v : BitVec 3) (z : Cplx) (b : Bool) (s : State) :
    exec (decodeStrobe v z b) s = .next (resetEvent s) ∨
      ∃ f ∈ [demodStep z, bsyncShift b, id, raise .refused], exec (decodeStrobe v z b) s = .next (portEvent f s) := by
  unfold decodeStrobe
  split
  · exact .inl rfl
  · split
    · exact .inr ⟨demodStep z, by simp, rfl⟩
    · exact .inr ⟨bsyncShift b, by simp, rfl⟩
    · exact .inr ⟨id, by simp, rfl⟩
    · exact .inr ⟨raise .refused, by simp, rfl⟩

/-- A block-B word is a whole group under the arm of its row (R104). -/
theorem exec_decodeWordB (w : Word16) (g : GroupRest) (s : State) :
    ∃ v arm, exec (decodeWordB w g) s = .next (groupWith v arm g s) := by
  unfold decodeWordB
  dsimp only
  split <;> exact ⟨_, _, rfl⟩

theorem exec_synOfLabel (l : Label) (s : State) : exec (synOfLabel l) s = .next (labelled l s) := by
  cases l <;> rfl

/-- What a step can do: a RESET, a gated port event, a label handed on, or a group (R281). -/
theorem step_cases {s t : State} (h : step s = .next t) :
    t = resetEvent s.accept ∨
    (∃ z b, ∃ f ∈ [demodStep z, bsyncShift b, id, raise .refused], t = portEvent f s.accept) ∨
    (∃ l, t = s.accept.withResult (.label l)) ∨
    ∃ v arm g, t = groupWith v arm g s.accept := by
  unfold step at h
  split at h
  case h_1 =>
    exact .inr (.inl ⟨default, false, id, by simp, (Host.Outcome.next.inj h).symm⟩)
  case h_2 x _ _ =>
    split at h
    case h_1 i hi =>
      cases x with
      | strobes v z b =>
        obtain rfl : decodeStrobe v z b = i := Except.ok.inj hi
        rcases exec_decodeStrobe v z b s.accept with e | ⟨f, hf, e⟩ <;> rw [e] at h
        · exact .inl (Host.Outcome.next.inj h).symm
        · exact .inr (.inl ⟨z, b, f, hf, (Host.Outcome.next.inj h).symm⟩)
      | synCode c =>
        simp only [decode, decodeSyn] at hi
        split at hi
        · obtain rfl := Except.ok.inj hi
          rw [exec_synOfLabel] at h
          exact .inr (.inr (.inl ⟨_, (Host.Outcome.next.inj h).symm⟩))
        · cases hi
      | wordB w g =>
        obtain rfl : decodeWordB w g = i := Except.ok.inj hi
        obtain ⟨v, arm, e⟩ := exec_decodeWordB w g s.accept
        rw [e] at h
        exact .inr (.inr (.inr ⟨v, arm, g, (Host.Outcome.next.inj h).symm⟩))
    case h_2 => exact .inr (.inr (.inl ⟨none, (Host.Outcome.next.inj h).symm⟩))

theorem step_inv {s t : State} (hi : s.Inv) (h : step s = .next t) : t.Inv := by
  have ha : s.accept.Inv := hi.congr rfl rfl rfl rfl
  rcases step_cases h with rfl | ⟨z, b, f, hf, rfl⟩ | ⟨l, rfl⟩ | ⟨v, arm, g, rfl⟩
  · exact resetEvent_inv ha
  · refine portEvent_inv ?_ ha
    simp only [List.mem_cons, List.not_mem_nil, or_false] at hf
    rcases hf with rfl | rfl | rfl | rfl
    · exact demodStep_inv z ha
    · exact bsyncShift_inv b ha
    · exact ha
    · exact raise_inv _ ha
  · exact ha.congr rfl rfl rfl rfl
  · exact groupWith_inv v arm g ha

/-- Settles O50: the invariant is kept, and its two error bounds give the bounds of R51 by arithmetic. -/
theorem everyStepKeepsTheInvariant : Obligations.EveryStepKeepsTheInvariant := by
  unfold Obligations.EveryStepKeepsTheInvariant
  intro s t hi h
  have ht := step_inv hi h
  obtain ⟨hs, h0, h1⟩ := ht.countsOk
  exact ⟨ht, by omega, by omega, by omega⟩

/-! ## The configuration at reset -/

theorem cfg_dec1_congr {c d : Cfg} (hin : c.fsIn = d.fsIn) (hbw : c.bw = d.bw) : c.dec1 = d.dec1 := by
  simp only [Cfg.dec1, hin, hbw]

theorem cfg_dec2_congr {c d : Cfg} (hin : c.fsIn = d.fsIn) (hbw : c.bw = d.bw) : c.dec2 = d.dec2 := by
  simp only [Cfg.dec2, Cfg.fsMpx, cfg_dec1_congr hin hbw, hin]

/-- The rates of program P5 give `DEC1 = 1` and `DEC2 = 32`. -/
theorem cfg_dec_of_p5_rates {c : Cfg} (hin : c.fsIn = 228000) (hbw : c.bw = 228000) : c.dec1 = 1 ∧ c.dec2 = 32 := by
  have hdec1 : c.dec1 = 1 := by
    rw [Cfg.dec1, hin, hbw]
    decide +kernel
  have hdec2 : c.dec2 = 32 := by
    rw [Cfg.dec2, Cfg.fsMpx, hdec1, hin]
    decide +kernel
  exact ⟨hdec1, hdec2⟩

/-- The host's rates are taken only where they are legal (notes/assumptions/4.md). -/
theorem config_cfg_legal : Config.cfg.legal := by
  have hrates : 1 ≤ Config.cfg.dec1 ∧ 1 ≤ Config.cfg.dec2 := by
    by_cases h : 1 ≤ Config.hostCfg.dec1 ∧ 1 ≤ Config.hostCfg.dec2
    · have hr : Config.rates = (Config.hostCfg.fsIn, Config.hostCfg.bw) := if_pos h
      have hin : Config.cfg.fsIn = Config.hostCfg.fsIn := congrArg Prod.fst hr
      have hbw : Config.cfg.bw = Config.hostCfg.bw := congrArg Prod.snd hr
      rwa [cfg_dec1_congr hin hbw, cfg_dec2_congr hin hbw]
    · have hr : Config.rates = (228000, 228000) := if_neg h
      obtain ⟨h1, h2⟩ := cfg_dec_of_p5_rates (c := Config.cfg) (congrArg Prod.fst hr) (congrArg Prod.snd hr)
      omega
  exact ⟨hrates.1, hrates.2, by decide, by decide⟩

/-- Settles O49: the reset values of any legal configuration are in range, and the open one is legal. -/
theorem resetStateMeetsTheInvariant : Obligations.ResetStateMeetsTheInvariant := s0_inv config_cfg_legal

end Sys2Proof.Machine

/-! SUPPORT. Whole turns of the three phases are invisible (10_state.md R49): `phi` is read modulo `2π` by the mixer
and modulo `96π` by the bit clock, `clk_off` modulo `2π` by the bit clock, `theta1` modulo `2π` by the mixer. -/

namespace Sys2Proof

theorem NumSys.cos_sub_two_pi_mul_int (n : NumSys) (x : Scalar) (k : Int) : n.cos (x - 2 * n.pi * k) = n.cos x :=
  n.cos_congr (fmodp_sub_mul_int x n.two_pi_pos k)

theorem NumSys.sin_sub_two_pi_mul_int (n : NumSys) (x : Scalar) (k : Int) : n.sin (x - 2 * n.pi * k) = n.sin x :=
  n.sin_congr (fmodp_sub_mul_int x n.two_pi_pos k)

end Sys2Proof

namespace Sys2Proof.Machine

/-! ## The carrier phase and the clock offset -/

/-- The state with `phi` less `p` and `clk_off` less `c`. -/
def State.shifted (p c : Scalar) (s : State) : State :=
  { s with
    pll := { s.pll with phi := s.pll.phi - p }
    sync := { s.sync with clkOff := s.sync.clkOff - c } }

theorem shifted_phi_only (p : Scalar) (s : State) :
    s.shifted p 0 = { s with pll := { s.pll with phi := s.pll.phi - p } } := by
  simp only [State.shifted, sub_zero]

theorem shifted_clkOff_only (c : Scalar) (s : State) :
    s.shifted 0 c = { s with sync := { s.sync with clkOff := s.sync.clkOff - c } } := by
  simp only [State.shifted, sub_zero]

/-- `p` is a multiple of `96π` and `c` one of `2π`: the reductions that R49 allows. -/
def WholeTurns (n : NumSys) (p c : Scalar) : Prop :=
  (∃ k : Int, p = 96 * n.pi * k) ∧ ∃ k : Int, c = 2 * n.pi * k

theorem WholeTurns.phi {n : NumSys} {p c : Scalar} (h : WholeTurns n p c) : ∃ k : Int, p = 2 * n.pi * k := by
  obtain ⟨⟨k, rfl⟩, -⟩ := h
  exact ⟨48 * k, by push_cast; ring⟩

theorem WholeTurns.clock {n : NumSys} {p c : Scalar} (h : WholeTurns n p c) :
    ∃ k : Int, p / 48 + c = 2 * n.pi * k := by
  obtain ⟨⟨k, rfl⟩, l, rfl⟩ := h
  exact ⟨k + l, by push_cast; ring⟩

/-- The clock error is `π`-periodic (R174). -/
theorem clockError_sub_two_pi_mul_int (n : NumSys) (x : Scalar) (k : Int) :
    clockError n (x - 2 * n.pi * k) = clockError n x := by
  have e : x - 2 * n.pi * k = x - n.pi * (2 * k : Int) := by
    push_cast
    ring
  unfold clockError
  rw [e, fmodp_sub_mul_int x n.pi_pos]

/-- Stages 5 and 6 do not read the stages 2 and 3 (R72). -/
theorem bsyncShift_withPllSync (b : Bool) (s : State) (p : Pll) (y : Sync) :
    bsyncShift b { s with pll := p, sync := y } = { bsyncShift b s with pll := p, sync := y } := by
  unfold bsyncShift bsyncScan
  dsimp only
  split
  · split
    · rw [grpDecode_eq, grpDecode_eq]
    · rfl
  · rfl

/-- Stage 4 does not read the stages 2 and 3 either (R72). -/
theorem diffStep_withPllSync (x : Bool) (s : State) (p : Pll) (y : Sync) :
    diffStep x { s with pll := p, sync := y } = { diffStep x s with pll := p, sync := y } := by
  unfold diffStep
  dsimp only
  split
  · have h := bsyncShift_withPllSync (x ^^ s.diff.dPrev) (emit (.bit (x ^^ s.diff.dPrev)) s) p y
    exact congrArg (fun t : State => { t with diff := { dPrev := x, dValid := true } }) h
  · rfl

theorem recordErr_withClkOff (k : Bool) (a c : Scalar) (y : Sync) :
    recordErr k a { y with clkOff := c } = { recordErr k a y with clkOff := c } := by
  unfold recordErr
  split_ifs <;> rfl

theorem syncAfterHalfsym_withClkOff (a c : Scalar) (y : Sync) :
    syncAfterHalfsym a { y with clkOff := c } = { syncAfterHalfsym a y with clkOff := c } := by
  have hpar : parity { y with clkOff := c } = parity y := rfl
  unfold syncAfterHalfsym
  simp only [hpar, recordErr_withClkOff]
  split <;> rfl

theorem syncAfterDump_withClkOff (lo : Sign) (c : Scalar) (y : Sync) :
    syncAfterDump lo { y with clkOff := c } = { syncAfterDump lo y with clkOff := c } := by
  unfold syncAfterDump
  dsimp only
  split
  · rw [syncAfterHalfsym_withClkOff]
  · rfl

theorem syncAfterDump_clkOff (lo : Sign) (y : Sync) : (syncAfterDump lo y).clkOff = y.clkOff :=
  (congrArg Sync.clkOff (syncAfterDump_withClkOff lo y.clkOff y) :)

theorem afterSymbol_withPllClkOff (a : Scalar) (s : State) (p : Pll) (c : Scalar) :
    afterSymbol a { s with pll := p, sync := { s.sync with clkOff := c } } =
      { afterSymbol a s with pll := p, sync := { recordErr (parity s.sync) a s.sync with clkOff := c } } := by
  have hrec := recordErr_withClkOff (parity s.sync) a c s.sync
  have hpar : parity { s.sync with clkOff := c } = parity s.sync := rfl
  unfold afterSymbol
  dsimp only
  rw [hpar, hrec]
  split
  · exact diffStep_withPllSync _ (emit _ { s with sync := recordErr (parity s.sync) a s.sync }) p _
  · rfl

/-- A dump reads neither the carrier phase nor the clock offset (R176). -/
theorem syncDump_withPllClkOff (lo : Sign) (s : State) (p : Pll) (c : Scalar) :
    syncDump lo { s with pll := p, sync := { s.sync with clkOff := c } } =
      { syncDump lo s with pll := p, sync := { (syncDump lo s).sync with clkOff := c } } := by
  rw [syncDump_sync, syncDump_eq, syncDump_eq]
  dsimp only
  rw [syncAfterDump_withClkOff, afterSymbol_withPllClkOff]
  split
  · rfl
  next hsame => rw [syncAfterDump, if_neg hsame]

theorem syncDump_shifted (lo : Sign) (p c : Scalar) (s : State) :
    syncDump lo (s.shifted p c) = (syncDump lo s).shifted p c := by
  have hoff : (syncDump lo s).sync.clkOff = s.sync.clkOff := by rw [syncDump_sync, syncAfterDump_clkOff]
  unfold State.shifted
  rw [syncDump_withPllClkOff, (syncDump_earlier lo s).2, hoff]

/-- The bit clock moves by whole turns and keeps its sign (R172). -/
theorem syncClock_shifted {p c : Scalar} {s : State} (h : WholeTurns s.cfg.num p c) :
    ∃ k : Int, syncClock (s.shifted p c) = ((syncClock s).1 - 2 * s.cfg.num.pi * k, (syncClock s).2) := by
  obtain ⟨k, hk⟩ := h.clock
  have e : (s.pll.phi - p) / 48 + (s.sync.clkOff - c) =
      s.pll.phi / 48 + s.sync.clkOff - 2 * s.cfg.num.pi * k := by
    rw [← hk]
    ring
  refine ⟨k, ?_⟩
  simp only [syncClock, State.shifted, e, fmodp_sub_mul_int _ s.cfg.num.two_pi_pos]

theorem syncAdj_shifted (bb cphi p c : Scalar) (s : State) :
    syncAdj bb cphi (s.shifted p c) = (syncAdj bb cphi s).shifted p c := by
  unfold syncAdj State.shifted
  dsimp only
  split
  · simp only [sub_right_comm]
  · rfl

theorem syncAdj_sub_two_pi_mul_int (bb cphi : Scalar) (k : Int) (s : State) :
    syncAdj bb (cphi - 2 * s.cfg.num.pi * k) s = syncAdj bb cphi s := by
  simp only [syncAdj, clockError_sub_two_pi_mul_int]

theorem syncTick_shifted (bb : Scalar) {p c : Scalar} {s : State} (h : WholeTurns s.cfg.num p c) :
    syncTick bb (s.shifted p c) = (syncTick bb s).shifted p c := by
  obtain ⟨k, hclock⟩ := syncClock_shifted h
  have hbefore : syncBeforeDump bb (s.shifted p c) = (syncBeforeDump bb s).shifted p c := by
    unfold syncBeforeDump
    rw [hclock]
    exact congrArg (syncInteg bb _) ((syncAdj_sub_two_pi_mul_int ..).trans (syncAdj_shifted ..))
  rw [syncTick_eq, syncTick_eq, hbefore, syncDump_shifted, hclock]
  rfl

/-! ## Stage 2 -/

theorem pllTickcnt_shifted (iBb : Scalar) {p c : Scalar} {s : State} (h : WholeTurns s.cfg.num p c) :
    pllTickcnt iBb (s.shifted p c) = (pllTickcnt iBb s).shifted p c := by
  rw [pllTickcnt_eq, pllTickcnt_eq]
  dsimp only
  by_cases htick : s.sync.n2 = 0
  · rw [if_pos htick]
    exact (if_pos htick).trans
      (syncTick_shifted iBb (s := { s with sync := { s.sync with n2 := advance s.sync.n2 s.cfg.dec2 } }) h)
  · rw [if_neg htick]
    exact if_neg htick

theorem pllNco_shifted (p c : Scalar) (s : State) : pllNco (s.shifted p c) = (pllNco s).shifted p c := by
  simp only [pllNco, State.shifted, sub_add_eq_add_sub]

/-- The mixer's cosine and sine do not see whole turns (R152). -/
theorem pllMix_shifted (y : Scalar) {p c : Scalar} {s : State} (h : WholeTurns s.cfg.num p c) :
    pllMix y (s.shifted p c) = ((pllMix y s).1.shifted p c, (pllMix y s).2) := by
  obtain ⟨k, rfl⟩ := h.phi
  simp only [pllMix, State.shifted, NumSys.cos_sub_two_pi_mul_int, NumSys.sin_sub_two_pi_mul_int]

theorem pllErr_shifted (iBb qBb p c : Scalar) (s : State) :
    pllErr iBb qBb (s.shifted p c) = ((pllErr iBb qBb s).1.shifted p c, (pllErr iBb qBb s).2) := rfl

theorem pllFeedback_shifted (e p c : Scalar) (s : State) :
    pllFeedback e (s.shifted p c) = (pllFeedback e s).shifted p c := by
  simp only [pllFeedback, State.shifted, sub_right_comm]

theorem pllSnap_shifted (p c : Scalar) (s : State) : pllSnap (s.shifted p c) = (pllSnap s).shifted p c := by
  unfold pllSnap State.shifted
  dsimp only
  split <;> rfl

theorem pllSnap_cfg (s : State) : (pllSnap s).cfg = s.cfg := by rw [pllSnap_eq]

theorem pllStep_shifted (y : Scalar) {p c : Scalar} {s : State} (h : WholeTurns s.cfg.num p c) :
    pllStep y (s.shifted p c) = (pllStep y s).shifted p c := by
  have hmix := pllMix_shifted y (s := pllNco s) h
  unfold pllStep
  rw [pllNco_shifted, hmix]
  dsimp only
  rw [pllErr_shifted]
  dsimp only
  rw [pllFeedback_shifted, pllSnap_shifted]
  exact pllTickcnt_shifted _ ((congrArg (fun g : Cfg => WholeTurns g.num p c) (pllSnap_cfg _)).mpr h)

/-! ## Stage 1 -/

theorem demodStep_shifted (z : Cplx) {p c : Scalar} {s : State} (h : WholeTurns s.cfg.num p c) :
    demodStep z (s.shifted p c) = (demodStep z s).shifted p c := by
  rw [demodStep_eq, demodStep_eq]
  by_cases hkeep : s.demod.n1 = 0
  · rw [if_pos hkeep]
    exact (if_pos hkeep).trans
      (pllStep_shifted _ (s := { s with demod := { demodAfter z s with vPrev := mixed z s } }) h)
  · rw [if_neg hkeep]
    exact if_neg hkeep

/-- The mixer reads and replaces `theta1` modulo `2π` (R133). -/
theorem demodMix_sub_two_pi_mul_int (u : Cplx) (k : Int) (s : State) :
    demodMix u { s with demod := { s.demod with theta1 := s.demod.theta1 - 2 * s.cfg.num.pi * k } } =
      demodMix u s := by
  have e : s.demod.theta1 - 2 * s.cfg.num.pi * k + 2 * s.cfg.num.pi * s.cfg.fOffset / s.cfg.fsIn =
      s.demod.theta1 + 2 * s.cfg.num.pi * s.cfg.fOffset / s.cfg.fsIn - 2 * s.cfg.num.pi * k := by ring
  simp only [demodMix, NumSys.cos_sub_two_pi_mul_int, NumSys.sin_sub_two_pi_mul_int, e,
    fmodp_sub_mul_int _ s.cfg.num.two_pi_pos]

theorem demodStep_sub_two_pi_mul_int (z : Cplx) (k : Int) (s : State) :
    demodStep z { s with demod := { s.demod with theta1 := s.demod.theta1 - 2 * s.cfg.num.pi * k } } =
      demodStep z s := by
  have hmix := demodMix_sub_two_pi_mul_int (demodFilt z s).2 k (demodFilt z s).1
  exact congrArg (fun m : State × Cplx =>
    if (demodDecim m.1).2 then pllStep (demodDisc m.2 (demodDecim m.1).1).2 (demodDisc m.2 (demodDecim m.1).1).1
    else (demodDecim m.1).1) hmix

/-! ## The port event -/

theorem exec_sample_accepting {z : Cplx} {s t : State} (h : s.accepting) (e : demodStep z s = t) :
    exec (.sample z) s = .next t :=
  congrArg Host.Outcome.next ((portEvent_accepting h (demodStep z)).trans e)

/-- Settles O52: DEMOD.STEP commutes with the two shifts and does not see the third. -/
theorem phaseReductionsAreInvisible : Obligations.PhaseReductionsAreInvisible := by
  unfold Obligations.PhaseReductionsAreInvisible
  intro z k s hs
  have hphi := demodStep_shifted z (p := 96 * s.cfg.num.pi * k) (c := 0) (s := s) ⟨⟨k, rfl⟩, 0, by simp⟩
  have hoff := demodStep_shifted z (p := 0) (c := 2 * s.cfg.num.pi * k) (s := s) ⟨⟨0, by simp⟩, k, rfl⟩
  rw [shifted_phi_only, shifted_phi_only] at hphi
  rw [shifted_clkOff_only, shifted_clkOff_only] at hoff
  exact ⟨demodStep z s, exec_sample_accepting hs rfl, exec_sample_accepting hs hphi, exec_sample_accepting hs hoff,
    exec_sample_accepting hs (demodStep_sub_two_pi_mul_int z k s)⟩

end Sys2Proof.Machine

/-! SUPPORT. A text buffer changes only through its own group (10_state.md R52), and the bit window holds the last
104 bits (10_state.md R50). -/

namespace Sys2Proof

/-- The selecting bits are the group type and the version (R96, R104). -/
theorem wordSel_eq_append (w : Word16) : wordSel w = wordGt w ++ BitVec.ofBool (wordVer w) := by
  apply BitVec.eq_of_getLsbD_eq
  intro i hi
  rw [wordSel, wordGt, wordVer, BitVec.getLsbD_append, BitVec.getLsbD_extractLsb']
  rcases i with _ | i
  · simp
  · simp [hi, show i < 4 by omega, show 11 + (i + 1) = 12 + i by omega]

end Sys2Proof

namespace Sys2Proof.Machine

/-! ## The text buffers -/

@[simp] theorem writeName2_rt (idx : Nat) (w : Word16) (st : Station) : (writeName2 idx w st).rt = st.rt := rfl
@[simp] theorem writeRt2_name (idx : Nat) (w : Word16) (st : Station) : (writeRt2 idx w st).name = st.name := rfl
@[simp] theorem clearRt_name (st : Station) : (clearRt st).name = st.name := rfl

theorem arm0A_rt (seg : BitVec 2) (d : Option Word16) (st : Station) : (arm0A seg d st).rt = st.rt := by
  cases d <;> simp [arm0A]

/-- The clear and the two writes of 2A go to the radio text (R250, R251). -/
theorem arm2A_name (ab : Bool) (seg : BitVec 4) (c d : Option Word16) (st : Station) :
    (arm2A ab seg c d st).name = st.name := by
  cases ab <;> cases c <;> cases d <;> simp [arm2A]

/-- The dispatch reaches the name through 0A with block D only (R248, R249). -/
theorem dispatchArm_name_ne {w : Word16} {c d : Option Word16} {st : Station}
    (h : (dispatchArm w c d st).name ≠ st.name) : wordSel w = 0b00000#5 ∧ d.isSome = true := by
  unfold dispatchArm at h
  split at h
  next h0A =>
    refine ⟨by rw [wordSel_eq_append, h0A.1, h0A.2]; decide, ?_⟩
    cases d
    · exact absurd rfl h
    · rfl
  next =>
    split at h
    · exact absurd (arm2A_name ..) h
    · exact absurd rfl h

/-- The dispatch reaches the radio text through 2A only (R248, R250, R251). -/
theorem dispatchArm_rt_ne {w : Word16} {c d : Option Word16} {st : Station}
    (h : (dispatchArm w c d st).rt ≠ st.rt) : wordSel w = 0b00100#5 := by
  unfold dispatchArm at h
  split at h
  next => exact absurd (arm0A_rt ..) h
  next =>
    split at h
    next h2A => rw [wordSel_eq_append, h2A.1, h2A.2]; decide
    next => exact absurd rfl h

theorem stationAfter_name_ne {g : GroupWords} {st : Station} (h : (stationAfter g st).name ≠ st.name) :
    ∃ w, g.b = some w ∧ wordSel w = 0b00000#5 ∧ g.d.isSome = true := by
  unfold stationAfter at h
  cases hb : g.b <;> rw [hb] at h
  case none => exact absurd rfl h
  case some w => exact ⟨w, rfl, dispatchArm_name_ne h⟩

theorem stationAfter_rt_ne {g : GroupWords} {st : Station} (h : (stationAfter g st).rt ≠ st.rt) :
    ∃ w, g.b = some w ∧ wordSel w = 0b00100#5 := by
  unfold stationAfter at h
  cases hb : g.b <;> rw [hb] at h
  case none => exact absurd rfl h
  case some w => exact ⟨w, rfl, dispatchArm_rt_ne h⟩

/-- A present block B holds bits 77 to 62 of the window (R93, R219). -/
theorem candidate_b_eq_some {win : BitVec 104} {w : Word16} (h : (candidate win).b = some w) :
    w = win.extractLsb' 62 16 := by
  have hdata : blockData (blockB win) = w := by
    simp only [candidate, wordIf, Option.ite_none_right_eq_some, Option.some.injEq] at h
    exact h.2
  rw [← hdata, blockData, blockB]
  apply BitVec.eq_of_getLsbD_eq
  intro i hi
  simp [hi, show 10 + i < 26 by omega, show 52 + (10 + i) = 62 + i by omega]

/-- What a BIT event does to the station state: nothing, or the group of the candidate, which it reports
(R218, R247, R289). -/
theorem exec_bit_station {b : Bool} {s t : State} (h : exec (.bit b) s = .next t) :
    t.station = s.station ∨
      ∃ m : GMap, ∃ g : GroupWords, g = candidate t.bsync.win ∧ t.station = stationAfter g s.station ∧
        t.out = s.out ++ [.group m t.station] ∧ m.presentB = g.b.isSome ∧ m.presentD = g.d.isSome := by
  obtain rfl : portEvent (bsyncShift b) s = t := Host.Outcome.next.inj h
  rcases portEvent_cases (bsyncShift b) s with ⟨-, e⟩ | ⟨-, -, e⟩ | ⟨-, e⟩ <;> rw [e]
  · exact .inl (raise_station ..)
  · exact .inl rfl
  · rcases bsyncShift_cases b s with e | ⟨-, -, e⟩ <;> rw [e]
    · exact .inl rfl
    · rw [grpDecode_eq]
      exact .inr ⟨_, _, rfl, rfl, rfl, rfl, rfl⟩

/-- Settles O55: the arm that changes the buffer names the word of block B, which the window holds. -/
theorem textChangesOnlyThroughItsGroup : Obligations.TextChangesOnlyThroughItsGroup := by
  unfold Obligations.TextChangesOnlyThroughItsGroup
  intro b s t h
  rcases exec_bit_station h with e | ⟨m, g, rfl, hst, hout, hB, hD⟩
  · exact ⟨fun hn => absurd (congrArg Station.name e) hn, fun hr => absurd (congrArg Station.rt e) hr⟩
  · constructor
    · intro hn
      obtain ⟨w, hb, hsel, hd⟩ := stationAfter_name_ne (hst ▸ hn)
      exact ⟨m, w, hout, by rw [hB, hb]; rfl, hD.trans hd, candidate_b_eq_some hb, hsel⟩
    · intro hr
      obtain ⟨w, hb, hsel⟩ := stationAfter_rt_ne (hst ▸ hr)
      exact ⟨m, w, hout, by rw [hB, hb]; rfl, candidate_b_eq_some hb, hsel⟩

/-! ## The bit window -/

/-- The window after the bits `l`, newest first, were shifted in: bit `i` is the `i`-th newest (R218). -/
theorem foldr_pushBit_getLsbD (l : List Bool) (y : Bsync) {i : Nat} (hl : i < l.length) (hi : i < 104) :
    (l.foldr pushBit y).win.getLsbD i = l.getD i false := by
  induction l generalizing i with
  | nil => cases hl
  | cons b l ih =>
    rw [List.foldr_cons, pushBit_win, BitVec.getLsbD_append]
    cases i with
    | zero => simp
    | succ i =>
      have hrec := ih (i := i) (by simpa using hl) (by omega)
      simp [show i < 103 by omega, hrec]

/-- A BIT event presented to an accepting state shifts its bit in (R289). -/
theorem step_present_bitEvent (b : Bool) {s : State} (h : s.accepting) :
    step (s.present (bitEvent b)) = .next (bsyncShift b (s.present (bitEvent b)).accept) :=
  congrArg Host.Outcome.next (portEvent_accepting (s := (s.present (bitEvent b)).accept) h (bsyncShift b))

/-- BIT events one by one: every one is taken, and the window has shifted in each bit in order (R71, R218). -/
theorem runInputs_bitEvents (bits : List Bool) {s : State} (h : s.accepting) :
    ∃ t o, runInputs (bits.map bitEvent) s = some (t, o) ∧ t.bsync = bits.reverse.foldr pushBit s.bsync := by
  induction bits generalizing s with
  | nil => exact ⟨s, [], rfl, rfl⟩
  | cons b bits ih =>
    have hleaves := bsyncShift_leaves b (s.present (bitEvent b)).accept
    have hnext : (bsyncShift b (s.present (bitEvent b)).accept).accepting :=
      ⟨hleaves.cfgOk.trans h.1, (congrArg Flags.fltConfig hleaves.flags).trans h.2⟩
    obtain ⟨t, o, hrun, ht⟩ := ih hnext
    refine ⟨t, (bsyncShift b (s.present (bitEvent b)).accept).out ++ o, ?_, ?_⟩
    · rw [List.map_cons, runInputs, step_present_bitEvent b h]
      simp only [hrun, Option.map_some]
    · rw [ht, bsyncShift_bsync, List.reverse_cons, List.foldr_append, accept_bsync, present_bsync, List.foldr_cons,
        List.foldr_nil]

/-- Settles O59: bit `103 - k` is the `(103 - k)`-th newest of 104 bits, which is the `k`-th in order of arrival. -/
theorem windowHoldsTheLast104Bits : Obligations.WindowHoldsTheLast104Bits := by
  unfold Obligations.WindowHoldsTheLast104Bits
  intro bits s hs hlen
  obtain ⟨t, o, hrun, ht⟩ := runInputs_bitEvents bits hs
  refine ⟨t, o, hrun, fun k hk => ?_⟩
  rw [ht, foldr_pushBit_getLsbD _ _ (by simp only [List.length_reverse]; omega) (by omega)]
  rw [List.getD_eq_getElem?_getD, List.getD_eq_getElem?_getD, List.getElem?_reverse (by omega)]
  rw [hlen, show 104 - 1 - (103 - k) = k by omega]

end Sys2Proof.Machine

/-! SUPPORT. Data flows strictly forward (20_memory.md R72): two runs that agree on the configuration and the stages 1
to `k` still agree on them after a sample, whatever the stages after `k` hold. -/

namespace Sys2Proof.Machine

/-- The two states have the same configuration and the same stages 1 to `k`. -/
structure AgreeTo (k : Nat) (s t : State) : Prop where
  cfg     : s.cfg = t.cfg
  demod   : 1 ≤ k → s.demod = t.demod
  pll     : 2 ≤ k → s.pll = t.pll
  sync    : 3 ≤ k → s.sync = t.sync
  diff    : 4 ≤ k → s.diff = t.diff
  bsync   : 5 ≤ k → s.bsync = t.bsync
  station : 6 ≤ k → s.station = t.station

/-- Agreement on one stage more. Only the hypothesis about stage `k + 1` says anything; for a numeral `k` the others
hold because their premise is false. -/
theorem AgreeTo.succ {k : Nat} {s t : State} (h : AgreeTo k s t)
    (demod : k = 0 → s.demod = t.demod := by omega) (pll : k = 1 → s.pll = t.pll := by omega)
    (sync : k = 2 → s.sync = t.sync := by omega) (diff : k = 3 → s.diff = t.diff := by omega)
    (bsync : k = 4 → s.bsync = t.bsync := by omega) (station : k = 5 → s.station = t.station := by omega) :
    AgreeTo (k + 1) s t where
  cfg := h.cfg
  demod hk := if e : k = 0 then demod e else h.demod (by omega)
  pll hk := if e : k = 1 then pll e else h.pll (by omega)
  sync hk := if e : k = 2 then sync e else h.sync (by omega)
  diff hk := if e : k = 3 then diff e else h.diff (by omega)
  bsync hk := if e : k = 4 then bsync e else h.bsync (by omega)
  station hk := if e : k = 5 then station e else h.station (by omega)

/-- Two runs of an operation that leaves the stages 1 to `j` alone agree on them as before, whatever each run does
to the later ones. -/
theorem AgreeTo.frame {j k : Nat} {s t s' t' : State} (h : AgreeTo k s t) (hk : k ≤ j) (hs : AgreeTo j s s')
    (ht : AgreeTo j t t') : AgreeTo k s' t' where
  cfg := hs.cfg.symm.trans (h.cfg.trans ht.cfg)
  demod l := (hs.demod (l.trans hk)).symm.trans ((h.demod l).trans (ht.demod (l.trans hk)))
  pll l := (hs.pll (l.trans hk)).symm.trans ((h.pll l).trans (ht.pll (l.trans hk)))
  sync l := (hs.sync (l.trans hk)).symm.trans ((h.sync l).trans (ht.sync (l.trans hk)))
  diff l := (hs.diff (l.trans hk)).symm.trans ((h.diff l).trans (ht.diff (l.trans hk)))
  bsync l := (hs.bsync (l.trans hk)).symm.trans ((h.bsync l).trans (ht.bsync (l.trans hk)))
  station l := (hs.station (l.trans hk)).symm.trans ((h.station l).trans (ht.station (l.trans hk)))

/-! ## What the later stages leave alone -/

theorem bsyncShift_agreeTo_self (b : Bool) (s : State) : AgreeTo 4 s (bsyncShift b s) := by
  have h := bsyncShift_leaves b s
  exact ⟨h.cfg.symm, fun _ => h.demod.symm, fun _ => h.pll.symm, fun _ => h.sync.symm, fun _ => h.diff.symm,
    by omega, by omega⟩

theorem diffStep_agreeTo_self (x : Bool) (s : State) : AgreeTo 3 s (diffStep x s) := by
  obtain ⟨hdemod, hpll, hsync⟩ := diffStep_earlier x s
  exact ⟨(diffStep_host x s).cfg.symm, fun _ => hdemod.symm, fun _ => hpll.symm, fun _ => hsync.symm,
    by omega, by omega, by omega⟩

theorem pllTickcnt_agreeTo_self (iBb : Scalar) (s : State) : AgreeTo 2 s (pllTickcnt iBb s) := by
  obtain ⟨hdemod, hpll⟩ := pllTickcnt_earlier iBb s
  exact ⟨(pllTickcnt_host iBb s).cfg.symm, fun _ => hdemod.symm, fun _ => hpll.symm,
    by omega, by omega, by omega, by omega⟩

theorem pllStep_agreeTo_self (y : Scalar) (s : State) : AgreeTo 1 s (pllStep y s) :=
  ⟨(pllStep_host y s).cfg.symm, fun _ => (pllStep_earlier y s).1.symm, by omega, by omega, by omega, by omega,
    by omega⟩

/-! ## Two runs of each stage, from the last one back

A stage is handed the same value by both runs only if they agree on the stages before it; where they do not, its own
stage is not compared, and the earlier ones are left alone. -/

section
variable {k : Nat} {s t : State}

theorem grpDecode_agreeTo (pos : Nat) (g : GroupWords) (h : AgreeTo k s t) :
    AgreeTo k (grpDecode pos g s) (grpDecode pos g t) := by
  rw [grpDecode_eq, grpDecode_eq]
  exact { h with station := fun l => congrArg (stationAfter g) (h.station l) }

theorem bsyncScan_agreeTo (hk : 5 ≤ k) (h : AgreeTo k s t) : AgreeTo k (bsyncScan s) (bsyncScan t) := by
  unfold bsyncScan
  rw [h.cfg, h.bsync hk]
  dsimp only
  split
  · exact grpDecode_agreeTo _ _ h
  · exact h

theorem bsyncShift_agreeTo {b b' : Bool} (hb : 5 ≤ k → b = b') (h : AgreeTo k s t) :
    AgreeTo k (bsyncShift b s) (bsyncShift b' t) := by
  by_cases hk : 5 ≤ k
  · obtain rfl := hb hk
    have hbsync := congrArg (pushBit b) (h.bsync hk)
    have hpush : AgreeTo k { s with bsync := pushBit b s.bsync } { t with bsync := pushBit b t.bsync } :=
      { h with bsync := fun _ => hbsync }
    unfold bsyncShift
    dsimp only
    rw [h.bsync hk] at hpush ⊢
    split
    · exact bsyncScan_agreeTo hk hpush
    · exact hpush
  · exact h.frame (by omega) (bsyncShift_agreeTo_self b s) (bsyncShift_agreeTo_self b' t)

theorem diffStep_agreeTo {x x' : Bool} (hx : 4 ≤ k → x = x') (h : AgreeTo k s t) :
    AgreeTo k (diffStep x s) (diffStep x' t) := by
  by_cases hk : 4 ≤ k
  · obtain rfl := hx hk
    unfold diffStep
    rw [h.diff hk]
    dsimp only
    split
    · have hbit := bsyncShift_agreeTo (b := x ^^ t.diff.dPrev) (fun _ => rfl)
        (s := emit (.bit (x ^^ t.diff.dPrev)) s) (t := emit (.bit (x ^^ t.diff.dPrev)) t) { h with }
      exact { hbit with diff := fun _ => rfl }
    · exact { h with diff := fun _ => rfl }
  · exact h.frame (by omega) (diffStep_agreeTo_self x s) (diffStep_agreeTo_self x' t)

theorem afterSymbol_agreeTo (a : Scalar) (hk : 3 ≤ k) (h : AgreeTo k s t) :
    AgreeTo k (afterSymbol a s) (afterSymbol a t) := by
  unfold afterSymbol
  rw [h.sync hk]
  dsimp only
  split
  · exact diffStep_agreeTo (fun _ => rfl) { h with sync := fun _ => rfl }
  · exact { h with sync := fun _ => rfl }

theorem syncDump_agreeTo (lo : Sign) (hk : 3 ≤ k) (h : AgreeTo k s t) :
    AgreeTo k (syncDump lo s) (syncDump lo t) := by
  rw [syncDump_eq, syncDump_eq, h.sync hk]
  split
  · exact { afterSymbol_agreeTo t.sync.acc hk h with sync := fun _ => rfl }
  · exact h

/-- The bit clock reads the configuration and the stages 2 and 3 (R172). -/
theorem syncClock_congr (hk : 3 ≤ k) (h : AgreeTo k s t) : syncClock s = syncClock t := by
  simp only [syncClock, h.cfg, h.pll (by omega), h.sync hk]

theorem syncAdj_agreeTo (bb cphi : Scalar) (hk : 3 ≤ k) (h : AgreeTo k s t) :
    AgreeTo k (syncAdj bb cphi s) (syncAdj bb cphi t) := by
  unfold syncAdj
  rw [h.sync hk, h.cfg]
  split
  · exact { h with cfg := rfl, sync := fun _ => rfl }
  · exact h

theorem syncInteg_agreeTo (bb : Scalar) (lo : Sign) (hk : 3 ≤ k) (h : AgreeTo k s t) :
    AgreeTo k (syncInteg bb lo s) (syncInteg bb lo t) :=
  { h with sync := fun _ => by rw [syncInteg_sync, syncInteg_sync, h.sync hk] }

theorem syncTick_agreeTo (bb : Scalar) (hk : 3 ≤ k) (h : AgreeTo k s t) :
    AgreeTo k (syncTick bb s) (syncTick bb t) := by
  have hbefore : AgreeTo k (syncBeforeDump bb s) (syncBeforeDump bb t) := by
    unfold syncBeforeDump
    rw [syncClock_congr hk h]
    exact syncInteg_agreeTo bb _ hk (syncAdj_agreeTo bb _ hk h)
  have hdump := syncDump_agreeTo (syncClock t).2 hk hbefore
  rw [syncTick_eq, syncTick_eq, syncClock_congr hk h]
  exact { hdump with sync := fun _ => by dsimp only; rw [hdump.sync hk] }

theorem pllTickcnt_agreeTo {i i' : Scalar} (hi : 3 ≤ k → i = i') (h : AgreeTo k s t) :
    AgreeTo k (pllTickcnt i s) (pllTickcnt i' t) := by
  by_cases hk : 3 ≤ k
  · obtain rfl := hi hk
    rw [pllTickcnt_eq, pllTickcnt_eq, h.sync hk, h.cfg]
    dsimp only
    split
    · exact syncTick_agreeTo i hk { h with cfg := rfl, sync := fun _ => rfl }
    · exact { h with cfg := rfl, sync := fun _ => rfl }
  · exact h.frame (by omega) (pllTickcnt_agreeTo_self i s) (pllTickcnt_agreeTo_self i' t)

theorem pllSnap_pll (s : State) :
    (pllSnap s).pll = if outsideBand s.pll.fEst then { s.pll with fEst := 57000 } else s.pll :=
  apply_ite State.pll ..

/-- PLL.STEP reads the configuration and stage 2, for its own stage and for the arm it hands on (R150). -/
theorem pllAfter_congr (y : Scalar) (hk : 2 ≤ k) (h : AgreeTo k s t) : pllAfter y s = pllAfter y t := by
  simp only [pllAfter, pllSnap_pll, pllFeedback, pllErr, pllMix, pllNco, h.cfg, h.pll hk]

theorem pllStep_agreeTo {y y' : Scalar} (hy : 2 ≤ k → y = y') (h : AgreeTo k s t) :
    AgreeTo k (pllStep y s) (pllStep y' t) := by
  by_cases hk : 2 ≤ k
  · obtain rfl := hy hk
    rw [pllStep_eq, pllStep_eq, pllAfter_congr y hk h]
    exact pllTickcnt_agreeTo (fun _ => rfl) { h with pll := fun _ => rfl }
  · exact h.frame (by omega) (pllStep_agreeTo_self y s) (pllStep_agreeTo_self y' t)

/-- Filter, mixer and decimator read the configuration and stage 1 (R132 to R134). -/
theorem demodAfter_congr (z : Cplx) (hk : 1 ≤ k) (h : AgreeTo k s t) : demodAfter z s = demodAfter z t := by
  simp only [demodAfter, demodDecim, demodMix, demodFilt, h.cfg, h.demod hk]

theorem mixed_congr (z : Cplx) (hk : 1 ≤ k) (h : AgreeTo k s t) : mixed z s = mixed z t := by
  simp only [mixed, demodMix, demodFilt, h.cfg, h.demod hk]

theorem demodStep_agreeTo (z : Cplx) (hk : 1 ≤ k) (h : AgreeTo k s t) :
    AgreeTo k (demodStep z s) (demodStep z t) := by
  rw [demodStep_eq, demodStep_eq, demodAfter_congr z hk h, mixed_congr z hk h, h.demod hk, h.cfg]
  split
  · exact pllStep_agreeTo (fun _ => rfl) { h with cfg := rfl, demod := fun _ => rfl }
  · exact { h with cfg := rfl, demod := fun _ => rfl }

end

/-- Settles O53: DEMOD.STEP keeps the agreement on the stages 1 to `k`, read off for each `k` from 1 to 6. -/
theorem dataFlowsStrictlyForward : Obligations.DataFlowsStrictlyForward := by
  unfold Obligations.DataFlowsStrictlyForward
  intro z s s' hs hs' hcfg hdemod
  have h1 : AgreeTo 1 s s' :=
    ⟨hcfg, fun _ => hdemod, by omega, by omega, by omega, by omega, by omega⟩
  refine ⟨demodStep z s, demodStep z s', exec_sample_accepting hs rfl, exec_sample_accepting hs' rfl,
    (demodStep_agreeTo z le_rfl h1).demod le_rfl, fun hpll => ?_⟩
  have h2 := h1.succ (pll := fun _ => hpll)
  refine ⟨(demodStep_agreeTo z (by decide) h2).pll le_rfl, fun hsync => ?_⟩
  have h3 := h2.succ (sync := fun _ => hsync)
  refine ⟨(demodStep_agreeTo z (by decide) h3).sync le_rfl, fun hdiff => ?_⟩
  have h4 := h3.succ (diff := fun _ => hdiff)
  refine ⟨(demodStep_agreeTo z (by decide) h4).diff le_rfl, fun hbsync => ?_⟩
  have h5 := h4.succ (bsync := fun _ => hbsync)
  refine ⟨(demodStep_agreeTo z (by decide) h5).bsync le_rfl, fun hstation => ?_⟩
  have h6 := h5.succ (station := fun _ => hstation)
  exact (demodStep_agreeTo z (by decide) h6).station le_rfl

end Sys2Proof.Machine

/-! SUPPORT. The decoder and the encoder are inverse to each other (30_encoding.md R91, R94, R96 to R98, R104). -/

namespace Sys2Proof

/-! ## The fields of a block-B word -/

theorem bitVec_append_inj {m n : Nat} {a a' : BitVec m} {b b' : BitVec n} :
    a ++ b = a' ++ b' ↔ a = a' ∧ b = b' := by
  refine ⟨fun h => ⟨?_, ?_⟩, fun h => by rw [h.1, h.2]⟩
  · simpa only [BitVec.extractLsb'_append_eq_left] using congrArg (BitVec.extractLsb' n m) h
  · simpa only [BitVec.extractLsb'_append_eq_right] using congrArg (BitVec.extractLsb' 0 n) h

theorem ofBool_getLsbD {n : Nat} (x : BitVec n) (i : Nat) : BitVec.ofBool (x.getLsbD i) = x.extractLsb' i 1 := by
  apply BitVec.eq_of_getLsbD_eq
  intro j hj
  obtain rfl : j = 0 := by omega
  simp

/-- No bit of a block-B word lies outside its four fields (R96). -/
@[simp] theorem encodeWordB_fields (w : Word16) :
    encodeWordB (wordSel w) (wordTa w) (wordPty w) (wordTail w) = w := by
  rw [encodeWordB, wordSel, wordTa, wordPty, wordTail, ofBool_getLsbD,
    BitVec.extractLsb'_append_extractLsb'_eq_extractLsb' (show 11 = 10 + 1 from rfl),
    BitVec.extractLsb'_append_extractLsb'_eq_extractLsb' (show 10 = 5 + 5 from rfl),
    BitVec.extractLsb'_append_extractLsb'_eq_extractLsb' (show 5 = 0 + 5 from rfl)]
  exact BitVec.extractLsb'_eq_self

/-- The two fields of a 0A word fill its tail (R97). -/
@[simp] theorem wordUnused0A_append_wordSeg0A (w : Word16) : (wordUnused0A w ++ wordSeg0A w : BitVec 5) = wordTail w :=
  BitVec.extractLsb'_append_extractLsb'_eq_extractLsb' rfl

/-- The two fields of a 2A word fill its tail (R98). -/
@[simp] theorem ofBool_wordAb_append_wordSeg2A (w : Word16) :
    (BitVec.ofBool (wordAb w) ++ wordSeg2A w : BitVec 5) = wordTail w := by
  rw [wordAb, ofBool_getLsbD]
  exact BitVec.extractLsb'_append_extractLsb'_eq_extractLsb' rfl

theorem fields0A_encodeWordB (sel : BitVec 5) (ta : Bool) (pty : BitVec 5) (unused : BitVec 3) (seg : BitVec 2) :
    wordUnused0A (encodeWordB sel ta pty (unused ++ seg)) = unused ∧
      wordSeg0A (encodeWordB sel ta pty (unused ++ seg)) = seg :=
  bitVec_append_inj.1 ((wordUnused0A_append_wordSeg0A _).trans (wordTail_encodeWordB ..))

theorem fields2A_encodeWordB (sel : BitVec 5) (ta : Bool) (pty : BitVec 5) (ab : Bool) (seg : BitVec 4) :
    wordAb (encodeWordB sel ta pty (BitVec.ofBool ab ++ seg)) = ab ∧
      wordSeg2A (encodeWordB sel ta pty (BitVec.ofBool ab ++ seg)) = seg := by
  have h := bitVec_append_inj.1 ((ofBool_wordAb_append_wordSeg2A _).trans
    (wordTail_encodeWordB sel ta pty (BitVec.ofBool ab ++ seg)))
  exact ⟨BitVec.ofBool_eq_iff_eq.1 h.1, h.2⟩

/-- What a block-B word decodes to (R104): 0A, 2A, or one of the other rows, which is encoded with the four fields
of the word and whose meaning is the group of the arm OTHER. -/
theorem decodeWordB_cases (w : Word16) (g : GroupRest) :
    (wordSel w = 0#5 ∧ decodeWordB w g = .group0A (wordTa w) (wordPty w) (wordUnused0A w) (wordSeg0A w) g) ∨
    (wordSel w = 4#5 ∧ decodeWordB w g = .group2A (wordTa w) (wordPty w) (wordAb w) (wordSeg2A w) g) ∨
    (wordSel w ≠ 0#5 ∧ wordSel w ≠ 4#5 ∧
      encode (decodeWordB w g) = some (.wordB (encodeWordB (wordSel w) (wordTa w) (wordPty w) (wordTail w)) g) ∧
      ∀ s, Machine.exec (decodeWordB w g) s =
        .next (Machine.otherGroup (wordSel w) (wordTa w) (wordPty w) (wordTail w) g s)) := by
  unfold decodeWordB
  generalize wordSel w = sel
  obtain ⟨k, hk⟩ := sel
  interval_cases k
  -- the values of the selecting bits in order: 0 is first, and then 4 is the fourth of those left
  · exact .inl ⟨rfl, rfl⟩
  pick_goal 4
  · exact .inr (.inl ⟨rfl, rfl⟩)
  all_goals exact .inr (.inr ⟨by decide +revert, by decide +revert, rfl, fun _ => rfl⟩)

/-- Every block-B word is the word of the instruction it decodes to: its fields are all of it. -/
theorem encode_decodeWordB (w : Word16) (g : GroupRest) : encode (decodeWordB w g) = some (.wordB w g) := by
  rcases decodeWordB_cases w g with ⟨hsel, e⟩ | ⟨hsel, e⟩ | ⟨-, -, e, -⟩
  · rw [e, encode, wordUnused0A_append_wordSeg0A, ← hsel, encodeWordB_fields]
  · rw [e, encode, ofBool_wordAb_append_wordSeg2A, ← hsel, encodeWordB_fields]
  · rw [e, encodeWordB_fields]

theorem encode_synOfLabel (l : Label) : encode (synOfLabel l) = some (.synCode (syndromeOfLabel l)) := by
  cases l <;> rfl

theorem decodeSyn_eq_ok {c : BitVec 10} {i : Instr} (h : decodeSyn c = .ok i) :
    ∃ l, c = syndromeOfLabel l ∧ i = synOfLabel l := by
  unfold decodeSyn at h
  split at h
  next l hl => exact ⟨l, (Machine.labelOfSyndrome_eq_some c l).1 hl, (Except.ok.inj h).symm⟩
  next => cases h

/-- A strobe vector with `rst = 0` is the vector of its event, with the operand that the event takes (R91). -/
theorem encode_decodeStrobe {v : BitVec 3} (hrst : v.getLsbD 2 = false) (z : Cplx) (b : Bool) :
    ∃ z' b', encode (decodeStrobe v z b) = some (.strobes v z' b') ∧
      (v.getLsbD 1 = true → v.getLsbD 0 = false → z' = z) ∧
      (v.getLsbD 1 = false → v.getLsbD 0 = true → b' = b) := by
  have hv : v = 0b010#3 ∨ v = 0b001#3 ∨ v = 0b000#3 ∨ v = 0b011#3 := by
    revert v
    decide
  rcases hv with rfl | rfl | rfl | rfl
  · exact ⟨z, false, rfl, fun _ _ => rfl, nofun⟩
  · exact ⟨default, b, rfl, nofun, fun _ _ => rfl⟩
  · exact ⟨default, false, rfl, nofun, nofun⟩
  · exact ⟨default, false, rfl, nofun, nofun⟩

/-- Settles O46, by one lemma for each of the three formats. -/
theorem encodeUndoesDecode : Obligations.EncodeUndoesDecode := by
  unfold Obligations.EncodeUndoesDecode
  refine ⟨encode_decodeWordB, fun c i h => ?_, fun v z b hrst => encode_decodeStrobe hrst z b⟩
  obtain ⟨l, rfl, rfl⟩ := decodeSyn_eq_ok h
  exact encode_synOfLabel l

/-- Settles O45: a word's fields are the operands it was encoded from, and its selecting bits are the row's; the
internal operations have no word. -/
theorem decodeUndoesEncode : Obligations.DecodeUndoesEncode := by
  unfold Obligations.DecodeUndoesEncode
  intro i x h
  cases i <;> cases h
  case group0A ta pty unused seg g =>
    obtain ⟨hunused, hseg⟩ := fields0A_encodeWordB 0#5 ta pty unused seg
    simp [decode, decodeWordB, hunused, hseg]
  case group2A ta pty ab seg g =>
    obtain ⟨hab, hseg⟩ := fields2A_encodeWordB 4#5 ta pty ab seg
    simp [decode, decodeWordB, hab, hseg]
  case reset | sample | bit | idle | strobeReserved | synA | synB | synC | synD | synCp => rfl
  all_goals simp [decode, decodeWordB]

/-- Settles O44, by running the decoder on each word. -/
theorem writtenOutWordsDecode : Obligations.WrittenOutWordsDecode := by
  unfold Obligations.WrittenOutWordsDecode
  exact ⟨rfl, rfl, rfl, rfl, rfl, rfl, rfl, rfl, rfl⟩

end Sys2Proof

namespace Sys2Proof.Machine

theorem wordSel_eq_append_iff (w : Word16) (gt : BitVec 4) (ver : Bool) :
    wordSel w = gt ++ BitVec.ofBool ver ↔ wordGt w = gt ∧ wordVer w = ver := by
  rw [wordSel_eq_append, bitVec_append_inj, BitVec.ofBool_eq_iff_eq]

/-- The dispatch on the group type and the version is the one on the selecting bits (R104, R248). -/
theorem dispatchArm_eq (w : Word16) (c d : Option Word16) (st : Station) :
    dispatchArm w c d st =
      if wordSel w = 0#5 then arm0A (wordSeg0A w) d st
      else if wordSel w = 4#5 then arm2A (wordAb w) (wordSeg2A w) c d st
      else armOther st := by
  simp only [dispatchArm, ← wordSel_eq_append_iff]
  rfl

/-- A group whose arm is the one that the dispatch selects is GRP.DECODE (R247). -/
theorem groupWith_eq_grpDecode {w : Word16} {arm : Station → Station} {g : GroupRest}
    (h : ∀ st, dispatchArm w g.c g.d st = arm st) (s : State) :
    groupWith w arm g s = grpDecode g.pos (.ofRest g (some w)) s := by
  rw [← funext h]
  rfl

/-- Settles O41: the word of each row is the word decoded, and its arm is the one that the dispatch selects for the
selecting bits. -/
theorem tableRowsAgreeWithTheDispatch : Obligations.TableRowsAgreeWithTheDispatch := by
  unfold Obligations.TableRowsAgreeWithTheDispatch
  intro w g s
  rcases decodeWordB_cases w g with ⟨hsel, e⟩ | ⟨hsel, e⟩ | ⟨h0A, h2A, -, e⟩
  · rw [e, exec, execGroup0A, wordUnused0A_append_wordSeg0A, ← hsel, encodeWordB_fields]
    exact congrArg _ (groupWith_eq_grpDecode (fun st => by rw [dispatchArm_eq, hsel]; rfl) s)
  · rw [e, exec, execGroup2A, ofBool_wordAb_append_wordSeg2A, ← hsel, encodeWordB_fields]
    exact congrArg _ (groupWith_eq_grpDecode (fun st => by rw [dispatchArm_eq, hsel]; rfl) s)
  · rw [e, otherGroup, encodeWordB_fields]
    exact congrArg _ (groupWith_eq_grpDecode (fun st => by rw [dispatchArm_eq, if_neg h0A, if_neg h2A]) s)

end Sys2Proof.Machine

/-! SUPPORT. The syndrome of a block is `x¹⁰` times the XOR of its check word and the CRC of its data word, so each
label stands for one offset word (30_encoding.md R94, R95, 44_block_sync.md R211, R213, R214). -/

namespace Sys2Proof.Machine

/-! ## Windows in stream order -/

theorem streamBits_append (m a b : Nat) : streamBits m (a + b) = streamBits (m >>> b) a ++ streamBits m b := by
  have hhigh : (m >>> b).testBit = m.testBit ∘ (b + ·) := funext fun i => Nat.testBit_shiftRight ..
  rw [Nat.add_comm, streamBits, List.range_add, List.reverse_append, List.map_append, ← List.map_reverse, List.map_map,
    ← hhigh]
  rfl

theorem streamBits_mod (m n : Nat) : streamBits (m % 2 ^ n) n = streamBits m n := by
  refine List.map_congr_left fun i hi => ?_
  rw [Nat.testBit_mod_two_pow, decide_eq_true (List.mem_range.1 (List.mem_reverse.1 hi)), Bool.true_and]

/-- A block's stream is its data word and then its check word (R62, R93). -/
theorem streamBits_block (k : Block26) :
    streamBits k.toNat 26 = streamBits (blockData k).toNat 16 ++ streamBits (blockCheck k).toNat 10 := by
  rw [blockData, blockCheck, BitVec.extractLsb'_toNat, BitVec.extractLsb'_toNat, streamBits_mod, streamBits_mod]
  exact streamBits_append k.toNat 16 10

/-! ## The CRC register as a residue -/

/-- The register holds a residue: bit 10 is clear. -/
def IsResidue (r : BitVec 11) : Prop := r.getLsbD 10 = false

theorem isResidue_setWidth (z : BitVec 10) : IsResidue (z.setWidth 11) := by
  simp [IsResidue]

theorem IsResidue.setWidth_setWidth {r : BitVec 11} (h : IsResidue r) : (r.setWidth 10).setWidth 11 = r := by
  apply BitVec.eq_of_getLsbD_eq
  intro i hi
  rcases Nat.lt_succ_iff_lt_or_eq.1 hi with hlt | rfl
  · simp [hi, hlt]
  · simpa using h.symm

/-- A step reduces bit 10 away (R211). -/
theorem isResidue_crcStep (r : BitVec 11) (b : Bool) : IsResidue (crcStep r b) := by
  unfold crcStep IsResidue
  dsimp only
  split
  next h => rw [BitVec.getLsbD_xor, h]; rfl
  next h => exact Bool.eq_false_of_not_eq_true h

theorem isResidue_crcFold (bs : List Bool) {r : BitVec 11} (h : IsResidue r) : IsResidue (bs.foldl crcStep r) := by
  induction bs generalizing r with
  | nil => exact h
  | cons b bs ih => exact ih (isResidue_crcStep r b)

/-- A register that stays below degree 10 is shifted and not reduced (R211). -/
theorem crcStep_ofNat {n : Nat} (h : n < 512) (b : Bool) :
    crcStep (BitVec.ofNat 11 n) b = BitVec.ofNat 11 (2 * n + b.toNat) := by
  have hb := b.toNat_lt
  have hshift : (BitVec.ofNat 11 n <<< 1) ||| (BitVec.ofBool b).setWidth 11 = BitVec.ofNat 11 (2 * n + b.toNat) := by
    apply BitVec.eq_of_toNat_eq
    rw [BitVec.toNat_or, BitVec.toNat_shiftLeft, BitVec.toNat_setWidth, BitVec.toNat_ofBool, BitVec.toNat_ofNat,
      BitVec.toNat_ofNat, Nat.mod_eq_of_lt (by omega : n < 2 ^ 11), Nat.mod_eq_of_lt (by omega : b.toNat < 2 ^ 11),
      Nat.mod_eq_of_lt (by omega : n <<< 1 < 2 ^ 11), ← Nat.shiftLeft_add_eq_or_of_lt hb]
    omega
  have hlow : (BitVec.ofNat 11 (2 * n + b.toNat)).getLsbD 10 = false := by
    rw [BitVec.getLsbD_ofNat, Nat.testBit_lt_two_pow (by omega), Bool.and_false]
  rw [crcStep, hshift, hlow]
  rfl

/-- Ten bits shifted into the empty register stand there as they are. -/
theorem crcFold_streamBits_zero {n : Nat} (hn : n ≤ 10) (m : Nat) :
    (streamBits m n).foldl crcStep 0#11 = BitVec.ofNat 11 (m % 2 ^ n) := by
  induction n generalizing m with
  | zero => simp [streamBits, Nat.mod_one]
  | succ n ih =>
    have hlow : m / 2 % 2 ^ n < 2 ^ n := Nat.mod_lt _ (by positivity)
    have hpow : 2 ^ n ≤ 2 ^ 9 := Nat.pow_le_pow_right (by decide) (by omega)
    have hbit : (m.testBit 0).toNat = m % 2 := by
      rw [Nat.testBit_zero]
      rcases Nat.mod_two_eq_zero_or_one m with h | h <;> simp [h]
    calc (streamBits m (n + 1)).foldl crcStep 0#11
        = crcStep ((streamBits (m / 2) n).foldl crcStep 0#11) (m.testBit 0) := by
          rw [streamBits_append, List.foldl_append]; rfl
      _ = BitVec.ofNat 11 (2 * (m / 2 % 2 ^ n) + m % 2) := by
          rw [ih (by omega), crcStep_ofNat (by omega), hbit]
      _ = BitVec.ofNat 11 (m % 2 ^ (n + 1)) := by
          rw [pow_succ', Nat.mod_mul, Nat.add_comm]

/-- The last ten bits of a window enter the register as an XOR with their value. -/
theorem crcFold_streamBits_ten (c : BitVec 10) (r : BitVec 11) :
    (streamBits c.toNat 10).foldl crcStep r =
      (List.replicate 10 false).foldl crcStep r ^^^ c.setWidth 11 := by
  have h := crcFold_xor (fun _ => false) c.toNat.testBit (List.range 10).reverse r 0#11
  simp only [Bool.false_xor, BitVec.xor_zero, List.map_const'] at h
  have hc := crcFold_streamBits_zero le_rfl c.toNat
  rw [Nat.mod_eq_of_lt c.isLt] at hc
  rw [← BitVec.ofNat_toNat 11 c, ← hc]
  exact h

/-! ## Multiplication by `x¹⁰` -/

/-- `x¹⁰·z` modulo the generator: ten zeros shifted in after `z` (R211). -/
def timesX10 (z : BitVec 10) : BitVec 10 := ((List.replicate 10 false).foldl crcStep (z.setWidth 11)).setWidth 10

theorem timesX10_xor (z z' : BitVec 10) : timesX10 (z ^^^ z') = timesX10 z ^^^ timesX10 z' := by
  rw [timesX10, BitVec.setWidth_xor, crcZeros_xor, BitVec.setWidth_xor]
  rfl

/-- The generator has a constant term, so a reduction leaves bit 0 set (R211). -/
theorem crcStep_false_eq_zero {r : BitVec 11} (hr : IsResidue r) (h : crcStep r false = 0#11) : r = 0#11 := by
  have hshift : (r <<< 1) ||| (BitVec.ofBool false).setWidth 11 = r <<< 1 := by simp
  rw [crcStep, hshift] at h
  split at h
  · simpa using congrArg (BitVec.getLsbD · 0) h
  · apply BitVec.eq_of_getLsbD_eq
    intro i hi
    rcases Nat.lt_succ_iff_lt_or_eq.1 hi with hlt | rfl
    · simpa [hi, hlt, show i + 1 < 11 by omega] using congrArg (BitVec.getLsbD · (i + 1)) h
    · exact hr

theorem crcZeros_eq_zero {n : Nat} {r : BitVec 11} (hr : IsResidue r)
    (h : (List.replicate n false).foldl crcStep r = 0#11) : r = 0#11 := by
  induction n generalizing r with
  | zero => exact h
  | succ n ih => exact crcStep_false_eq_zero hr (ih (isResidue_crcStep r false) h)

theorem timesX10_eq_zero {z : BitVec 10} (h : timesX10 z = 0#10) : z = 0#10 := by
  have hfold := (isResidue_crcFold (List.replicate 10 false) (isResidue_setWidth z)).setWidth_setWidth
  have hz := crcZeros_eq_zero (isResidue_setWidth z) (hfold.symm.trans (congrArg (BitVec.setWidth 11) h))
  simpa using congrArg (BitVec.setWidth 10) hz

theorem timesX10_injective : Function.Injective timesX10 := fun z z' h =>
  BitVec.xor_eq_zero_iff.1 (timesX10_eq_zero (by rw [timesX10_xor, h, BitVec.xor_self]))

/-- The syndrome of a label is that of its offset word (R94, R95). -/
theorem timesX10_offsetWord (l : Label) : timesX10 (offsetWord l) = syndromeOfLabel l := by
  cases l <;> decide

/-- The syndrome of a block is `x¹⁰` times its check word XOR the CRC of its data word (R211, R213). -/
theorem syndrome26_eq_timesX10 (k : Block26) : syndrome26 k = timesX10 (crc16 (blockData k) ^^^ blockCheck k) := by
  have hcrc : (crc16 (blockData k)).setWidth 11 =
      (List.replicate 10 false).foldl crcStep ((streamBits (blockData k).toNat 16).foldl crcStep 0#11) := by
    rw [crc16, crcBits, List.foldl_append]
    exact (isResidue_crcFold _ (isResidue_crcFold _ (isResidue_setWidth 0#10))).setWidth_setWidth
  rw [syndrome26, crcBits, streamBits_block, List.foldl_append, List.foldl_append, crcFold_streamBits_ten, ← hcrc,
    ← BitVec.setWidth_xor]
  rfl

/-- Settles O31: the syndrome is `x¹⁰` times the offset word exactly if the check word XOR the CRC is the offset
word, as multiplication by `x¹⁰` is injective. -/
theorem labelIsTheOffsetWordOfTheCheck : Obligations.LabelIsTheOffsetWordOfTheCheck := by
  unfold Obligations.LabelIsTheOffsetWordOfTheCheck
  intro k l
  calc classify k = some l
      ↔ timesX10 (crc16 (blockData k) ^^^ blockCheck k) = timesX10 (offsetWord l) := by
        rw [classify, labelOfSyndrome_eq_some, syndrome26_eq_timesX10, timesX10_offsetWord]
    _ ↔ crc16 (blockData k) ^^^ blockCheck k = offsetWord l := timesX10_injective.eq_iff
    _ ↔ blockCheck k = crc16 (blockData k) ^^^ offsetWord l := by
        rw [← BitVec.xor_right_inj (crc16 (blockData k)), ← BitVec.xor_assoc, BitVec.xor_self, BitVec.zero_xor]

end Sys2Proof.Machine

/-! SUPPORT. The parts of stage 1 and their order (40_demodulator.md R132 to R136). -/

namespace Sys2Proof

/-- A product with `c - j·d`, in its parts. -/
theorem Cplx.mul_mk_neg (a : Cplx) (c d : Scalar) :
    a.mul ⟨c, -d⟩ = ⟨a.re * c + a.im * d, a.im * c - a.re * d⟩ := by
  unfold Cplx.mul
  congr 1 <;> ring

end Sys2Proof

namespace Sys2Proof.Machine

/-- Settles O8: the phasor is `c - j·d`, and a remainder modulo `2π` lies in `[0, 2π)`. -/
theorem demodMixRotatesThenAdvances : Obligations.DemodMixRotatesThenAdvances := by
  unfold Obligations.DemodMixRotatesThenAdvances
  intro u s c d next
  refine ⟨?_, fmodp_nonneg s.cfg.num.two_pi_pos, fmodp_lt s.cfg.num.two_pi_pos⟩
  rw [← Cplx.mul_mk_neg]
  rfl

/-! ## The decimator (R134) -/

theorem runInstrs_cons_of_next {i : Instr} {s t : State} (h : exec i s = .next t) (is : List Instr) :
    runInstrs (i :: is) s = runInstrs is t := by
  rw [runInstrs, h]

theorem exec_demodDecim (s : State) :
    exec .demodDecim s = .next
      { s with
        demod := { s.demod with n1 := advance s.demod.n1 s.cfg.dec1 }
        result := .keep (decide (s.demod.n1 = 0)) } := rfl

/-- From any counter in range, `k + 1` runs add `k + 1` to it modulo DEC1, and the last one hands on whether the
counter it read was 0. -/
theorem runInstrs_replicate_demodDecim (k : Nat) {s : State} (h : s.demod.n1 < s.cfg.dec1) :
    runInstrs (List.replicate (k + 1) .demodDecim) s = some
      { s with
        demod := { s.demod with n1 := (s.demod.n1 + (k + 1)) % s.cfg.dec1 }
        result := .keep (decide ((s.demod.n1 + k) % s.cfg.dec1 = 0)) } := by
  induction k generalizing s with
  | zero =>
    have hread : (s.demod.n1 + 0) % s.cfg.dec1 = s.demod.n1 := Nat.mod_eq_of_lt h
    rw [hread]
    exact runInstrs_cons_of_next (exec_demodDecim s) []
  | succ k ih =>
    have hadd (m : Nat) : (advance s.demod.n1 s.cfg.dec1 + m) % s.cfg.dec1 = (s.demod.n1 + (m + 1)) % s.cfg.dec1 := by
      rw [advance, Nat.mod_add_mod, Nat.add_assoc, Nat.add_comm 1]
    rw [List.replicate_succ, runInstrs_cons_of_next (exec_demodDecim s), ih (advance_lt _ (Nat.zero_lt_of_lt h))]
    simp only [hadd]

/-- Settles O9: the run from any counter in range, started at 0. -/
theorem demodDecimKeepsEveryDec1thSample : Obligations.DemodDecimKeepsEveryDec1thSample := by
  unfold Obligations.DemodDecimKeepsEveryDec1thSample
  refine ⟨exec_demodDecim, fun k s hdec h0 => ?_⟩
  have hrun := runInstrs_replicate_demodDecim k (s := s) (by omega)
  rw [h0, Nat.zero_add, Nat.zero_add] at hrun
  exact ⟨_, hrun, rfl, rfl⟩

/-! ## The filter, the discriminator and the whole stage (R132, R135, R136) -/

/-- Settles O7: the meaning of the row, written out (R132). -/
theorem demodFiltStepsTheBandFilter : Obligations.DemodFiltStepsTheBandFilter := by
  unfold Obligations.DemodFiltStepsTheBandFilter
  intro z s
  rfl

/-- Settles O10: the conjugate of `p` is `p.re - j·p.im`, and `arg(0) = 0`. -/
theorem demodDiscMeasuresThePhaseStep : Obligations.DemodDiscMeasuresThePhaseStep := by
  unfold Obligations.DemodDiscMeasuresThePhaseStep
  intro v s p w
  have hw : v.mul p.conj = w := v.mul_mk_neg p.re p.im
  refine ⟨?_, fun h0 => by rw [h0, NumSys.arg_zero]⟩
  rw [← hw]
  rfl

/-- Settles O11, by the two cases of `demodStep_eq`: a sample that is not kept, and a kept one. -/
theorem demodStepRunsItsPartsInOrder : Obligations.DemodStepRunsItsPartsInOrder := by
  unfold Obligations.DemodStepRunsItsPartsInOrder
  intro z s r v s1
  have hstep : exec (.demodStep z) s = .next (demodStep z s) := rfl
  rw [hstep, demodStep_eq]
  constructor
  · intro hdrop
    rw [if_neg hdrop]
    rfl
  · intro hkeep
    rw [if_pos hkeep]
    exact ⟨_, rfl, rfl⟩

end Sys2Proof.Machine

/-! SUPPORT. The parts of stage 2 and their order (41_carrier_pll.md R150 to R157). -/

namespace Sys2Proof.Machine

/-! ## The tolerance band (R155) -/

theorem outsideBand_iff (f : Scalar) : outsideBand f = true ↔ f > 57012 ∨ f < 56988 := by
  have hhi : (57000 + 12 : Scalar) = 57012 := by norm_num
  have hlo : (57000 - 12 : Scalar) = 56988 := by norm_num
  rw [outsideBand, Bool.or_eq_true, decide_eq_true_iff, decide_eq_true_iff, hhi, hlo]

/-- The frequency estimate that PLL.SNAP leaves (R155). -/
def snapped (f : Scalar) : Scalar := if f > 57012 ∨ f < 56988 then 57000 else f

theorem snapped_mem (f : Scalar) : 56988 ≤ snapped f ∧ snapped f ≤ 57012 := by
  unfold snapped
  split
  next => constructor <;> norm_num
  next hin =>
    rw [not_or, not_lt, not_lt] at hin
    exact hin.symm

theorem pllSnap_eq_snapped (s : State) :
    pllSnap s = { s with pll := { s.pll with fEst := snapped s.pll.fEst } } := by
  simp only [pllSnap, outsideBand_iff, snapped]
  split <;> rfl

/-- Settles O16, by the two sides of the band. -/
theorem pllSnapBoundsTheFrequency : Obligations.PllSnapBoundsTheFrequency := by
  unfold Obligations.PllSnapBoundsTheFrequency
  intro s f
  exact ⟨congrArg Host.Outcome.next (pllSnap_eq_snapped s), snapped_mem s.pll.fEst⟩

/-! ## The whole stage and its tick counter (R150, R156, R157) -/

/-- What PLL.STEP leaves in stage 2 and hands to stage 3, with each part written out on the values before it. -/
theorem pllAfter_eq (y : Scalar) (s : State) :
    let phi := s.pll.phi + 2 * s.cfg.num.pi * s.pll.fEst / s.cfg.fsMpx
    let i := s.cfg.lpfIq.realStep s.pll.lpfI (y * s.cfg.num.cos phi)
    let q := s.cfg.lpfIq.realStep s.pll.lpfQ (y * s.cfg.num.sin phi)
    let e := s.cfg.lpfErr.realStep s.pll.lpfErr (i.2 * q.2)
    pllAfter y s =
      ({ phi := phi - s.cfg.pllBeta * e.2
         fEst := snapped (s.pll.fEst - s.cfg.pllBeta / 2 * e.2)
         lpfI := i.1
         lpfQ := q.1
         lpfErr := e.1 }, i.2) := by
  intro phi i q e
  exact Prod.ext (congrArg State.pll (pllSnap_eq_snapped _)) rfl

/-- Settles O18: stage 2 is updated by `pllAfter`, and the tick counter that then runs leaves stages 1 and 2 alone. -/
theorem pllStepRunsItsPartsInOrder : Obligations.PllStepRunsItsPartsInOrder := by
  unfold Obligations.PllStepRunsItsPartsInOrder
  intro y s phi i q e f s1
  have hstep : pllStep y s = pllTickcnt i.2 s1 := by
    rw [pllStep_eq, pllAfter_eq]
    rfl
  obtain ⟨hdemod, hpll⟩ := pllTickcnt_earlier i.2 s1
  exact ⟨pllTickcnt i.2 s1, rfl, congrArg Host.Outcome.next hstep, hpll, hdemod⟩

/-- Settles O17, by the two cases of `pllTickcnt_eq`: a call that is not a tick, and a tick. -/
theorem pllTickcntFiresEveryDec2thCall : Obligations.PllTickcntFiresEveryDec2thCall := by
  unfold Obligations.PllTickcntFiresEveryDec2thCall
  intro iBb s s1
  have hcall : exec (.pllTickcnt iBb) s = .next (pllTickcnt iBb s) := rfl
  rw [hcall, pllTickcnt_eq]
  constructor
  · intro hcount
    rw [if_neg hcount]
    rfl
  · intro htick
    rw [if_pos htick]
    exact ⟨_, rfl, rfl⟩

/-! ## The parts that are one assignment each (R151 to R154) -/

/-- Settles O12: the meaning of the row, written out (R151). -/
theorem pllNcoAdvancesThePhase : Obligations.PllNcoAdvancesThePhase := by
  unfold Obligations.PllNcoAdvancesThePhase
  intro s
  rfl

/-- Settles O13: the meaning of the row, written out (R152). -/
theorem pllMixFiltersBothArms : Obligations.PllMixFiltersBothArms := by
  unfold Obligations.PllMixFiltersBothArms
  intro y s i q
  rfl

/-- Settles O14: the meaning of the row, written out (R153). -/
theorem pllErrFiltersTheProduct : Obligations.PllErrFiltersTheProduct := by
  unfold Obligations.PllErrFiltersTheProduct
  intro iBb qBb s e
  rfl

/-- Settles O15: the meaning of the row, written out (R154). -/
theorem pllFeedbackCorrectsPhaseAndFrequency : Obligations.PllFeedbackCorrectsPhaseAndFrequency := by
  unfold Obligations.PllFeedbackCorrectsPhaseAndFrequency
  intro e s
  rfl

end Sys2Proof.Machine

/-! SUPPORT. The parts of stage 3 and their order (42_symbol_sync.md R171 to R183). -/

namespace Sys2Proof.Machine

/-! ## The half-symbol decision (R178 to R182) -/

theorem signsDiffer_iff (x y : Scalar) : signsDiffer x y = true ↔ sgn x ≠ sgn y := decide_eq_true_iff

/-- The counter of the parity `k` counts a sign transition, the other one stays (R180). -/
theorem recordErr_eq (k : Bool) (a : Scalar) (y : Sync) :
    recordErr k a y =
      { y with
        err0 := if signsDiffer a y.prevAcc && !k then y.err0 + 1 else y.err0
        err1 := if signsDiffer a y.prevAcc && k then y.err1 + 1 else y.err1 } := by
  unfold recordErr
  cases hdiff : signsDiffer a y.prevAcc with
  | false => rfl
  | true => cases k <;> rfl

/-- A decision of the other parity only counts its error. -/
theorem afterSymbol_of_ne_frame (a : Scalar) {s : State} (h : parity s.sync ≠ s.sync.frame) :
    afterSymbol a s = { s with sync := recordErr (parity s.sync) a s.sync } := by
  unfold afterSymbol
  rw [recordErr_eq]
  exact if_neg h

/-- A decision of the reading frame's parity emits its raw symbol and hands it to DIFF.STEP (R181). -/
theorem afterSymbol_of_eq_frame (a : Scalar) {s : State} (h : parity s.sync = s.sync.frame) :
    afterSymbol a s =
      diffStep (rawSymbol a s.sync)
        (emit (.sym (rawSymbol a s.sync)) { s with sync := recordErr (parity s.sync) a s.sync }) := by
  unfold afterSymbol
  rw [recordErr_eq]
  exact if_pos h

/-- The state of SYNC.HALFSYM before the wrap of the count is looked at (R178). -/
def afterCount (a : Scalar) (s : State) : State :=
  { afterSymbol a s with
    sync := { recordErr (parity s.sync) a s.sync with prevAcc := a, hsCnt := advance s.sync.hsCnt 800 } }

/-- SYNC.HALFSYM ends with the frame selection exactly if the count wraps (R182). -/
theorem syncHalfsym_eq_afterCount (a : Scalar) (s : State) :
    syncHalfsym a s =
      if advance s.sync.hsCnt 800 = 0 then syncFramesel (afterCount a s) else afterCount a s := by
  rw [syncHalfsym_eq]
  unfold syncAfterHalfsym
  dsimp only
  rw [recordErr_hsCnt]
  split <;> rfl

/-- Settles O24: the symbol's part of the decision is `afterSymbol`, and the wrap is the split of
`syncHalfsym_eq_afterCount`. -/
theorem syncHalfsymDecides : Obligations.SyncHalfsymDecides := by
  unfold Obligations.SyncHalfsymDecides
  intro a s k bad y1 sym y2
  have hrec : recordErr (parity s.sync) a s.sync = y1 := recordErr_eq ..
  have hcount : afterCount a s = { afterSymbol a s with sync := y2 } := by
    rw [afterCount, hrec]
    rfl
  have hexec : exec (.syncHalfsym a) s = .next (syncHalfsym a s) := rfl
  refine ⟨afterSymbol a s, syncHalfsym a s, fun hother => ?_, fun hreading => ?_, fun hstay => ?_,
    fun hwrap => ?_, hexec⟩
  · rw [afterSymbol_of_ne_frame a hother, hrec]
  · rw [afterSymbol_of_eq_frame a hreading, hrec]
    rfl
  · rw [syncHalfsym_eq_afterCount, hcount]
    exact if_neg hstay
  · rw [syncHalfsym_eq_afterCount, hcount]
    exact congrArg Host.Outcome.next (if_pos hwrap).symm

/-! ## The adjustment of the clock (R173, R174) -/

/-- The wrapped phase error lies in `[-π/2, π/2)` (R174). -/
theorem clockError_mem (n : NumSys) (x : Scalar) : -(n.pi / 2) ≤ clockError n x ∧ clockError n x < n.pi / 2 := by
  have hpi := n.pi_pos
  have h0 : 0 ≤ fmodp x n.pi := fmodp_nonneg hpi
  have hm : fmodp x n.pi < n.pi := fmodp_lt hpi
  unfold clockError
  dsimp only
  split
  next hhi => constructor <;> linarith
  next hlo => constructor <;> linarith

/-- Settles O21, by the two sides of the sign test and the range of the wrapped error. -/
theorem syncAdjMovesTheOffsetAgainstTheError : Obligations.SyncAdjMovesTheOffsetAgainstTheError := by
  unfold Obligations.SyncAdjMovesTheOffsetAgainstTheError
  intro bb cphi s d0 d
  refine ⟨fun hdiff => ?_, fun hsame => ?_, clockError_mem s.cfg.num cphi⟩
  · exact congrArg Host.Outcome.next (if_pos ((signsDiffer_iff ..).mpr hdiff))
  · exact congrArg Host.Outcome.next (if_neg fun h => (signsDiffer_iff ..).mp h hsame)

/-! ## The tick, the clock, the integrator and the dump (R171, R172, R175, R176) -/

/-- Settles O19: the two intermediate states are those after SYNC.ADJ and after SYNC.DUMP (R171). -/
theorem syncTickRunsItsPartsInOrder : Obligations.SyncTickRunsItsPartsInOrder := by
  unfold Obligations.SyncTickRunsItsPartsInOrder
  intro bb s cphi lo
  exact ⟨syncAdj bb cphi s, syncDump lo (syncInteg bb lo (syncAdj bb cphi s)), rfl, rfl, rfl⟩

/-- Settles O20: the meaning of the row, written out (R172). -/
theorem syncClockIsTheSignOfTheHalfTurn : Obligations.SyncClockIsTheSignOfTheHalfTurn := by
  unfold Obligations.SyncClockIsTheSignOfTheHalfTurn
  intro s cphi lo
  rfl

/-- Settles O22: the sign is the factor 1 or -1. -/
theorem syncIntegAddsWithTheClockSign : Obligations.SyncIntegAddsWithTheClockSign := by
  unfold Obligations.SyncIntegAddsWithTheClockSign
  intro bb s
  have hplus : s.sync.acc + bb * Sign.plus.toScalar = s.sync.acc + bb := by
    rw [Sign.toScalar, mul_one]
  have hminus : s.sync.acc + bb * Sign.minus.toScalar = s.sync.acc - bb := by
    rw [Sign.toScalar, mul_neg_one, sub_eq_add_neg]
  rw [← hplus, ← hminus]
  exact ⟨rfl, rfl⟩

/-- Settles O23, by the two sides of the test for a clock transition. -/
theorem syncDumpFiresOnAClockTransition : Obligations.SyncDumpFiresOnAClockTransition := by
  unfold Obligations.SyncDumpFiresOnAClockTransition
  intro lo s
  constructor
  · intro hsame
    exact congrArg Host.Outcome.next (if_neg (not_not_intro hsame))
  · intro htransition
    exact ⟨syncHalfsym s.sync.acc s, rfl, congrArg Host.Outcome.next (if_pos htransition)⟩

/-! ## The frame selection (R183) -/

theorem otherFrameBetter_iff (y : Sync) :
    otherFrameBetter y = true ↔ (if y.frame then y.err0 else y.err1) < if y.frame then y.err1 else y.err0 := by
  unfold otherFrameBetter errOf
  rw [decide_eq_true_iff]
  cases y.frame <;> exact Iff.rfl

/-- Settles O25: the vote compares the counter of the other parity with the reading frame's own. -/
theorem syncFrameselSwitchesToTheBetterParity : Obligations.SyncFrameselSwitchesToTheBetterParity := by
  unfold Obligations.SyncFrameselSwitchesToTheBetterParity
  intro s own other
  have hexec : exec .syncFramesel s = .next (syncFramesel s) := rfl
  simp only [hexec, syncFramesel, otherFrameBetter_iff, own, other]

end Sys2Proof.Machine

/-! SUPPORT. The differential decoder (43_differential.md): what one symbol does, the complement of every symbol, and
the recursive encoder. -/

namespace Sys2Proof.Machine

/-! ## One symbol (R201) -/

theorem exec_diffStep (x : Bool) (s : State) : exec (.diffStep x) s = .next (diffStep x s) := rfl

/-- The first symbol gives no bit. -/
theorem diffStep_of_not_dValid (x : Bool) {s : State} (h : s.diff.dValid = false) :
    diffStep x s = { s with diff := { dPrev := x, dValid := true } } := by
  simp only [diffStep, h, Bool.false_eq_true, if_false]

/-- Every later symbol gives its XOR with the one before. -/
theorem diffStep_of_dValid (x : Bool) {s : State} (h : s.diff.dValid = true) :
    diffStep x s =
      { bsyncShift (x ^^ s.diff.dPrev) (emit (.bit (x ^^ s.diff.dPrev)) s) with
        diff := { dPrev := x, dValid := true } } := by
  simp only [diffStep, h, if_true]

/-- Settles O26, by the two cases of DIFF.STEP. -/
theorem diffStepEmitsTheXorOfTwoSymbols : Obligations.DiffStepEmitsTheXorOfTwoSymbols := by
  unfold Obligations.DiffStepEmitsTheXorOfTwoSymbols
  intro x s
  constructor
  · intro hfirst
    rw [exec_diffStep, diffStep_of_not_dValid x hfirst]
  · intro hlater
    refine ⟨_, rfl, ?_⟩
    rw [exec_diffStep, diffStep_of_dValid x hlater]
    rfl

/-! ## Complemented symbols (R202) -/

/-- The state with the previous symbol complemented. -/
def State.complementPrev (s : State) : State := { s with diff := { s.diff with dPrev := !s.diff.dPrev } }

/-- Stages 5 and 6 do not read stage 4 (R72). -/
theorem bsyncShift_withDiff (b : Bool) (s : State) (d : Diff) :
    bsyncShift b { s with diff := d } = { bsyncShift b s with diff := d } := by
  unfold bsyncShift bsyncScan
  dsimp only
  split
  · split
    · rw [grpDecode_eq, grpDecode_eq]
    · rfl
  · rfl

/-- The complements of the symbol and of the one before cancel in their XOR, so the step differs in what it stores
only. -/
theorem diffStep_not_complementPrev (x : Bool) (s : State) :
    diffStep (!x) s.complementPrev = (diffStep x s).complementPrev := by
  cases h : s.diff.dValid with
  | false =>
    rw [diffStep_of_not_dValid x h, diffStep_of_not_dValid (!x) (s := s.complementPrev) h]
    rfl
  | true =>
    have hxor : (!x ^^ s.complementPrev.diff.dPrev) = (x ^^ s.diff.dPrev) := Bool.not_xor_not x s.diff.dPrev
    have hshift := bsyncShift_withDiff (x ^^ s.diff.dPrev) (emit (.bit (x ^^ s.diff.dPrev)) s) s.complementPrev.diff
    rw [diffStep_of_dValid x h, diffStep_of_dValid (!x) (s := s.complementPrev) h, hxor]
    exact congrArg (fun t : State => { t with diff := { dPrev := !x, dValid := true } }) hshift

/-- Settles O27, by induction on the symbols; each step commutes with the complement. -/
theorem complementedSymbolsGiveTheSameBits : Obligations.ComplementedSymbolsGiveTheSameBits := by
  unfold Obligations.ComplementedSymbolsGiveTheSameBits
  intro xs s t hrun
  change _ = some t.complementPrev
  induction xs generalizing s with
  | nil => exact congrArg (Option.map State.complementPrev) hrun
  | cons x xs ih =>
    rw [List.map_cons, runInstrs_cons_of_next (exec_diffStep x s)] at hrun
    rw [List.map_cons, runInstrs_cons_of_next (exec_diffStep ..)]
    exact (congrArg _ (diffStep_not_complementPrev x s)).trans (ih _ hrun)

/-! ## The recursive encoder (R203) -/

theorem tapBits_append (es fs : List OutEvent) : tapBits (es ++ fs) = tapBits es ++ tapBits fs := by
  induction es with
  | nil => rfl
  | cons e es ih =>
    cases e with
    | bit b => exact congrArg (b :: ·) ih
    | sym => exact ih
    | group => exact ih

/-- Stages 5 and 6 put nothing on the bit tap. -/
theorem tapBits_bsyncShift_out (b : Bool) (s : State) : tapBits (bsyncShift b s).out = tapBits s.out := by
  rcases bsyncShift_cases b s with h | ⟨-, -, h⟩ <;> rw [h]
  rw [grpDecode_eq, tapBits_append]
  exact List.append_nil _

theorem tapBits_diffStep_out (x : Bool) {s : State} (h : s.diff.dValid = true) :
    tapBits (diffStep x s).out = tapBits s.out ++ [x ^^ s.diff.dPrev] := by
  rw [diffStep_of_dValid x h]
  exact (tapBits_bsyncShift_out ..).trans (tapBits_append ..)

/-- The encoder and the decoder hold the same previous symbol after every bit, so its two XORs cancel. -/
theorem runInstrs_diffEncode (ts : List Bool) {s : State} (h : s.diff.dValid = true) :
    ∃ t : State, runInstrs ((diffEncode s.diff.dPrev ts).map .diffStep) s = some t ∧
      tapBits t.out = tapBits s.out ++ ts := by
  induction ts generalizing s with
  | nil => exact ⟨s, rfl, (List.append_nil _).symm⟩
  | cons b ts ih =>
    have hdecoded : tapBits (diffStep (b ^^ s.diff.dPrev) s).out = tapBits s.out ++ [b] := by
      rw [tapBits_diffStep_out _ h, Bool.xor_assoc, Bool.xor_self, Bool.xor_false]
    obtain ⟨t, hrun, hout⟩ := ih (s := diffStep (b ^^ s.diff.dPrev) s) rfl
    refine ⟨t, ?_, ?_⟩
    · rw [diffEncode, List.map_cons, runInstrs_cons_of_next (exec_diffStep ..)]
      exact hrun
    · rw [hout, hdecoded, List.append_assoc, List.singleton_append]

/-- Settles O28: the first symbol gives no bit, and the run of `runInstrs_diffEncode` follows it. -/
theorem differentialRoundTrip : Obligations.DifferentialRoundTrip := by
  unfold Obligations.DifferentialRoundTrip
  intro e0 ts s hfirst
  obtain ⟨t, hrun, hout⟩ := runInstrs_diffEncode ts (s := diffStep e0 s) rfl
  refine ⟨t, ?_, ?_⟩
  · rw [List.map_cons, runInstrs_cons_of_next (exec_diffStep e0 s)]
    exact hrun
  · rw [hout, diffStep_of_not_dValid e0 hfirst]

end Sys2Proof.Machine

/-! SUPPORT. The block synchroniser (44_block_sync.md): the syndrome table, the labels and flipped bits, the bit window
and the scan, and the batch form of the scanner. -/

namespace Sys2Proof.Machine

/-! ## The syndrome table (R212) -/

theorem exec_syndrome_of_legal {mlen : Nat} (h : mlen = 16 ∨ mlen = 26) (m : Nat) (s : State) :
    exec (.syndrome m mlen) s = .next (s.withResult (.syndrome (crcBits (streamBits m mlen)))) := by
  simp only [exec, execSyndrome, syndrome, h, if_true]

theorem exec_syndrome_of_illegal {mlen : Nat} (h : ¬ (mlen = 16 ∨ mlen = 26)) (m : Nat) (s : State) :
    exec (.syndrome m mlen) s =
      .next ((raise .configurationError s).withResult (.error .configurationError)) := by
  simp only [exec, execSyndrome, syndrome, h, if_false]

/-- `T[i]` as a 10-bit word (R212). -/
def tableEntry (i : Nat) : BitVec 10 := BitVec.ofNat 10 (syndromeTable.getD i 0)

/-- The table lists the syndromes of the single bits. -/
theorem crcBits_two_pow : ∀ i < 26, crcBits (streamBits (2 ^ i) 26) = tableEntry i := by
  decide +kernel

/-- The XOR may be taken in the 10-bit words. -/
theorem tableSyndrome_eq_fold (m : Nat) :
    tableSyndrome m =
      (List.range 26).foldl (fun v i => if m.testBit i then v ^^^ tableEntry i else v) 0#10 := by
  refine (List.foldl_hom (BitVec.ofNat 10) fun v i => ?_).symm
  split
  · exact (BitVec.ofNat_xor ..).symm
  · rfl

/-- The CRC of a 26-bit window is the XOR of the table entries; neither reads the bits of `m` above the window. -/
theorem crcBits_eq_tableSyndrome (m : Nat) : crcBits (streamBits m 26) = tableSyndrome m := by
  rw [← streamBits_mod, crcBits_eq_fold 26 26 _ (Nat.mod_lt _ (by decide)), tableSyndrome_eq_fold]
  refine List.foldl_ext _ _ _ fun v i hi => ?_
  have hlt := List.mem_range.1 hi
  rw [Nat.testBit_mod_two_pow, decide_eq_true hlt, Bool.true_and, crcBits_two_pow i hlt]

/-- Ten leading zeros leave the register empty, so a 16-bit window has the syndrome it has as a 26-bit one. -/
theorem crcBits_sixteen_eq_tableSyndrome {m : Nat} (h : m < 2 ^ 16) : crcBits (streamBits m 16) = tableSyndrome m := by
  have hzero : m >>> 16 = 0 := by rw [Nat.shiftRight_eq_div_pow, Nat.div_eq_of_lt h]
  rw [← crcBits_eq_tableSyndrome, streamBits_append m 10 16, hzero, crcBits, crcBits, List.append_assoc,
    List.foldl_append (l := streamBits 0 10), crcFold_streamBits_zero le_rfl]
  rfl

theorem tableSyndrome_xor (m n : Nat) : tableSyndrome (m ^^^ n) = tableSyndrome m ^^^ tableSyndrome n := by
  simp only [← crcBits_eq_tableSyndrome, crcBits_xor]

/-- Settles O29, by the table form of both window lengths. -/
theorem syndromeIsTheXorOfTheTable : Obligations.SyndromeIsTheXorOfTheTable := by
  unfold Obligations.SyndromeIsTheXorOfTheTable
  refine fun s => ⟨fun m _ => ?_, fun m hm => ?_, fun d => ?_, tableSyndrome_xor⟩
  · rw [exec_syndrome_of_legal (.inr rfl), crcBits_eq_tableSyndrome]
    rfl
  · rw [exec_syndrome_of_legal (.inl rfl), crcBits_sixteen_eq_tableSyndrome hm]
    rfl
  · rw [← crcBits_sixteen_eq_tableSyndrome d.isLt]
    rfl

/-! ## The length error (R217, R301) -/

/-- A pending ConfigurationError closes the gate of every port event but RESET (R301). -/
theorem portEvent_of_fltConfig (f : State → State) {s : State} (hok : s.cfgOk = true)
    (hflt : s.flags.fltConfig = true) : portEvent f s = s := by
  simp [portEvent, hok, hflt]

/-- Settles O6: the error sets the flag that closes the gate of the four port events. -/
theorem wrongWindowLengthStopsTheBlock : Obligations.WrongWindowLengthStopsTheBlock := by
  unfold Obligations.WrongWindowLengthStopsTheBlock
  intro m mlen s h16 h26
  refine ⟨_, exec_syndrome_of_illegal (by omega) m s, rfl, fun hok z b i hi => ?_⟩
  simp only [List.mem_cons, List.not_mem_nil, or_false] at hi
  rcases hi with rfl | rfl | rfl | rfl <;> exact congrArg Host.Outcome.next (portEvent_of_fltConfig _ hok rfl)

/-! ## Labels (R94, R215) -/

theorem syndrome26_eq_tableSyndrome (k : Block26) : syndrome26 k = tableSyndrome k.toNat :=
  crcBits_eq_tableSyndrome k.toNat

theorem labelOfSyndrome_eq_of_toNat (c : BitVec 10) :
    labelOfSyndrome c =
      if c.toNat = 383 then some .A else if c.toNat = 14 then some .B else if c.toNat = 303 then some .C
      else if c.toNat = 663 then some .D else if c.toNat = 748 then some .Cp else none := by
  simp [labelOfSyndrome, BitVec.toNat_eq]

/-- Settles O30: CLASSIFY reads the label off the table form of the syndrome. -/
theorem classifyReturnsTheLabelOfTheSyndrome : Obligations.ClassifyReturnsTheLabelOfTheSyndrome := by
  unfold Obligations.ClassifyReturnsTheLabelOfTheSyndrome
  refine fun s => ⟨fun k => ?_, rfl, rfl, rfl, rfl, rfl⟩
  dsimp only
  rw [← labelOfSyndrome_eq_of_toNat, ← syndrome26_eq_tableSyndrome]
  rfl

/-! ## Flipped bits (R216) -/

theorem syndrome26_twoPow {i : Nat} (hi : i < 26) : syndrome26 (BitVec.twoPow 26 i) = tableEntry i := by
  rw [syndrome26, BitVec.toNat_twoPow_of_lt hi]
  exact crcBits_two_pow i hi

/-- A flipped bit adds its table entry to the syndrome. -/
theorem syndrome26_flip (k : Block26) {i : Nat} (hi : i < 26) :
    syndrome26 (k ^^^ BitVec.twoPow 26 i) = syndrome26 k ^^^ tableEntry i := by
  rw [syndrome26_xor, syndrome26_twoPow hi]

/-- One table entry leads from a code to a code for bit 18 and the labels C and D only. -/
theorem labelOfSyndrome_code_xor_entry (l : Label) : ∀ i < 26,
    labelOfSyndrome (syndromeOfLabel l ^^^ tableEntry i) =
      (if i = 18 ∧ l = .C then some .D else if i = 18 ∧ l = .D then some .C else none) := by
  cases l <;> decide

/-- The pairs of bits that map one label onto another. -/
def twoBitPatterns : List (Nat × Nat) := [(10, 12), (18, 19), (18, 20), (19, 20), (23, 24)]

/-- The pairs of bits with the labels they exchange. -/
def twoBitExchanges : List (Nat × Nat × Label × Label) :=
  [(10, 12, .D, .Cp), (10, 12, .Cp, .D), (18, 19, .A, .B), (18, 19, .B, .A), (18, 20, .A, .Cp), (18, 20, .Cp, .A),
    (19, 20, .B, .Cp), (19, 20, .Cp, .B), (23, 24, .A, .D), (23, 24, .D, .A)]

/-- Outside the five patterns the XOR of a code and two table entries is no code: all 325 pairs of bits. -/
theorem mem_twoBitPatterns_of_isSome (l : Label) : ∀ j < 26, ∀ i < j,
    (labelOfSyndrome (syndromeOfLabel l ^^^ tableEntry i ^^^ tableEntry j)).isSome →
      twoBitPatterns.contains (i, j) := by
  cases l <;> decide +kernel

theorem code_xor_twoBitPattern (l l' : Label) : ∀ p ∈ twoBitPatterns,
    syndromeOfLabel l ^^^ tableEntry p.1 ^^^ tableEntry p.2 = syndromeOfLabel l' ↔
      (p.1, p.2, l, l') ∈ twoBitExchanges := by
  cases l <;> cases l' <;> decide

theorem mem_twoBitPatterns_of_mem_exchanges : ∀ e ∈ twoBitExchanges, (e.1, e.2.1) ∈ twoBitPatterns := by
  decide

theorem code_xor_two_entries {i j : Nat} (hij : i < j) (hj : j < 26) (l l' : Label) :
    syndromeOfLabel l ^^^ tableEntry i ^^^ tableEntry j = syndromeOfLabel l' ↔ (i, j, l, l') ∈ twoBitExchanges := by
  have hpattern := code_xor_twoBitPattern l l' (i, j)
  constructor
  · intro hcode
    have hsome := mem_twoBitPatterns_of_isSome l j hj i hij
    rw [(labelOfSyndrome_eq_some _ l').2 hcode] at hsome
    exact (hpattern (List.contains_iff_mem.1 (hsome rfl))).1 hcode
  · intro hmem
    exact (hpattern (mem_twoBitPatterns_of_mem_exchanges _ hmem)).2 hmem

/-- Settles O32: flipped bits add their table entries to the label's code, and the table decides which sums are
codes again. -/
theorem flippedBitsAreDetectedWithTheListedExceptions : Obligations.FlippedBitsAreDetectedWithTheListedExceptions := by
  unfold Obligations.FlippedBitsAreDetectedWithTheListedExceptions
  intro k l hk
  have hcode : syndrome26 k = syndromeOfLabel l := (labelOfSyndrome_eq_some _ l).1 hk
  constructor
  · intro i hi
    rw [classify, syndrome26_flip k hi, hcode]
    exact labelOfSyndrome_code_xor_entry l i hi
  · intro i j hij hj l'
    rw [classify, labelOfSyndrome_eq_some, syndrome26_flip _ hj, syndrome26_flip _ (hij.trans hj), hcode]
    exact code_xor_two_entries hij hj l l'

/-! ## The bit window (R218) -/

theorem pushBit_eq (b : Bool) (y : Bsync) :
    pushBit b y = { win := y.win.setWidth 103 ++ BitVec.ofBool b, nbits := y.nbits + 1 } :=
  congrArg (Bsync.mk · (y.nbits + 1)) (pushBit_win b y)

/-- The first 103 bits are not scanned. -/
theorem bsyncShift_of_lt (b : Bool) {s : State} (h : s.bsync.nbits + 1 < 104) :
    bsyncShift b s = { s with bsync := pushBit b s.bsync } := by
  simp only [bsyncShift, pushBit_nbits, Nat.not_le.2 h, if_false]

/-- From the 104th bit on, every bit is scanned. -/
theorem bsyncShift_of_le (b : Bool) {s : State} (h : 104 ≤ s.bsync.nbits + 1) :
    bsyncShift b s = bsyncScan { s with bsync := pushBit b s.bsync } := by
  simp only [bsyncShift, pushBit_nbits, h, if_true]

theorem exec_bsyncScan_of_lt {s : State} (h : s.bsync.nbits < 104) :
    exec .bsyncScan s = .refused .streamOutOfRange := by
  simp only [exec, execBsyncScan, Nat.not_le.2 h, if_false]

theorem exec_bsyncScan_of_le {s : State} (h : 104 ≤ s.bsync.nbits) : exec .bsyncScan s = .next (bsyncScan s) := by
  simp only [exec, execBsyncScan, h, if_true]

/-- Settles O33, by the two cases of BSYNC.SHIFT. -/
theorem bsyncShiftAppendsTheBit : Obligations.BsyncShiftAppendsTheBit := by
  unfold Obligations.BsyncShiftAppendsTheBit
  intro b s
  dsimp only
  rw [← pushBit_eq]
  constructor
  · intro hlt
    exact congrArg Host.Outcome.next (bsyncShift_of_lt b hlt)
  · intro hle
    exact ⟨_, exec_bsyncScan_of_le hle, congrArg Host.Outcome.next (bsyncShift_of_le b hle)⟩

/-! ## The scan (R219, R220, R221) -/

@[simp] theorem isSome_wordIf (l : Label) (k : Block26) : (wordIf l k).isSome = windowIs l k := by
  cases h : windowIs l k <;> simp [wordIf, h]

/-- The report condition counts the four label tests of the window (R219, R221). -/
theorem reportable_candidate_iff (c : Cfg) (w : BitVec 104) (pos : Nat) :
    reportable c ((candidate w).map pos) = true ↔
      c.minLabels ≤ (windowIs .A (blockA w)).toNat + (windowIs .B (blockB w)).toNat +
        (windowIs .C (blockC w)).toNat + (windowIs .D (blockD w)).toNat := by
  simp only [reportable, decide_eq_true_iff, GMap.count, GroupWords.map, candidate, isSome_wordIf]

theorem bsyncScan_of_reportable {s : State}
    (h : reportable s.cfg ((candidate s.bsync.win).map (s.bsync.nbits - 104)) = true) :
    bsyncScan s = grpDecode (s.bsync.nbits - 104) (candidate s.bsync.win) s := if_pos h

theorem bsyncScan_of_not_reportable {s : State}
    (h : ¬ reportable s.cfg ((candidate s.bsync.win).map (s.bsync.nbits - 104)) = true) : bsyncScan s = s := if_neg h

/-- The block whose last bit is bit `lo` of a full window is read at offset `78 - lo` of the candidate (R64, R93). -/
theorem readWord_block {y : Bsync} {lo : Nat} (l : Label) (h : 104 ≤ y.nbits) (hlo : lo + 26 ≤ 104) :
    readWord y (windowIs l (y.win.extractLsb' lo 26)) (y.nbits - 104 + (78 - lo)) =
      some (wordIf l (y.win.extractLsb' lo 26)) := by
  have hread : streamRead y (y.nbits - 104 + (78 - lo)) 16 = some (blockData (y.win.extractLsb' lo 26)) := by
    have hat : y.nbits - (y.nbits - 104 + (78 - lo)) - 16 = lo + 10 := by omega
    rw [streamRead, if_pos ⟨.inl rfl, by omega, by omega⟩, hat, blockData]
    congr 1
    apply BitVec.eq_of_getLsbD_eq
    intro i hi
    simp [hi, show 10 + i < 26 by omega, Nat.add_assoc]
  cases hl : windowIs l (y.win.extractLsb' lo 26) <;> simp [readWord, wordIf, hl, hread]

theorem readGroup_eq_some {y : Bsync} {pos : Nat} {pA pB pC pD : Bool} {a b c d : Option Word16}
    (hA : readWord y pA pos = some a) (hB : readWord y pB (pos + 26) = some b)
    (hC : readWord y pC (pos + 52) = some c) (hD : readWord y pD (pos + 78) = some d) :
    readGroup y pos pA pB pC pD = some ⟨a, b, c, d⟩ := by
  simp only [readGroup, hA, hB, hC, hD]

/-- The words of the present letters at the candidate position are the candidate's (R219, R241). -/
theorem readGroup_candidate {y : Bsync} (h : 104 ≤ y.nbits) :
    readGroup y (y.nbits - 104) (windowIs .A (blockA y.win)) (windowIs .B (blockB y.win))
      (windowIs .C (blockC y.win)) (windowIs .D (blockD y.win)) = some (candidate y.win) :=
  readGroup_eq_some (readWord_block (lo := 78) .A h (by decide)) (readWord_block (lo := 52) .B h (by decide))
    (readWord_block (lo := 26) .C h (by decide)) (readWord_block (lo := 0) .D h (by decide))

theorem exec_grpDecode_of_readGroup {s : State} {pos : Nat} {pA pB pC pD : Bool} {g : GroupWords}
    (h : readGroup s.bsync pos pA pB pC pD = some g) :
    exec (.grpDecode pos pA pB pC pD) s = .next (grpDecode pos g s) := by
  simp only [exec, execGrpDecode, h]

/-- Settles O34: the count of the label tests decides, and GRP.DECODE reads the candidate's words back. -/
theorem bsyncScanReportsEnoughLabels : Obligations.BsyncScanReportsEnoughLabels := by
  unfold Obligations.BsyncScanReportsEnoughLabels
  intro s
  have hrep := reportable_candidate_iff s.cfg s.bsync.win (s.bsync.nbits - 104)
  refine ⟨exec_bsyncScan_of_lt, fun hfull hfew => ?_, fun hfull henough => ?_⟩
  · rw [exec_bsyncScan_of_le hfull, bsyncScan_of_not_reportable fun h => absurd hfew (hrep.1 h).not_gt]
  · refine ⟨_, exec_grpDecode_of_readGroup (readGroup_candidate hfull), ?_⟩
    rw [exec_bsyncScan_of_le hfull, bsyncScan_of_reportable (hrep.2 henough)]

/-! ## The batch form (R223) -/

/-- The first bit is the most significant, so bit `i` of the value is the `i`-th from the end (R10, R62). -/
theorem testBit_bitsVal (bs : List Bool) (i : Nat) : (bitsVal bs).testBit i = bs.reverse.getD i false := by
  induction bs using List.reverseRecOn generalizing i with
  | nil => simp [bitsVal]
  | append_singleton bs b ih =>
    have hval : bitsVal (bs ++ [b]) = Nat.bit b (bitsVal bs) := by
      rw [bitsVal, List.foldl_append, Nat.bit_val]
      rfl
    rw [hval, List.reverse_append]
    cases i with
    | zero => exact Nat.testBit_bit_zero ..
    | succ i => exact (Nat.testBit_bit_succ ..).trans (ih i)

/-- After at least 104 bits the window register is the window of the stream at the candidate position (R218, R219). -/
theorem foldr_pushBit_win {bits : List Bool} (h : 104 ≤ bits.length) (y : Bsync) :
    (bits.reverse.foldr pushBit y).win = windowAt bits (bits.length - 104) := by
  apply BitVec.eq_of_getLsbD_eq
  intro i hi
  have hdrop : ((bits.drop (bits.length - 104)).take 104).reverse = bits.reverse.take 104 := by
    rw [List.take_of_length_le (by rw [List.length_drop]; omega), List.reverse_drop]
    congr 1
    omega
  rw [foldr_pushBit_getLsbD _ _ (by rw [List.length_reverse]; omega) hi, windowAt, BitVec.getLsbD_ofNat,
    testBit_bitsVal, hdrop, decide_eq_true hi, Bool.true_and]
  simp [List.getD_eq_getElem?_getD, hi]

theorem windowAt_append {bits : List Bool} {p : Nat} (h : p + 104 ≤ bits.length) (more : List Bool) :
    windowAt (bits ++ more) p = windowAt bits p := by
  rw [windowAt, windowAt, List.drop_append_of_le_length (by omega),
    List.take_append_of_le_length (by rw [List.length_drop]; omega)]

/-- The group the scanner reports in a state of stage 5, if any (R218, R221). -/
def scanReport (c : Cfg) (y : Bsync) : List GMap :=
  if 104 ≤ y.nbits then [(candidate y.win).map (y.nbits - 104)].filter (reportable c) else []

theorem groupMaps_append (es fs : List OutEvent) : groupMaps (es ++ fs) = groupMaps es ++ groupMaps fs := by
  induction es with
  | nil => rfl
  | cons e es ih =>
    cases e with
    | group m => exact congrArg (m :: ·) ih
    | sym => exact ih
    | bit => exact ih

theorem groupMaps_bsyncScan_out {s : State} (hfull : 104 ≤ s.bsync.nbits) :
    groupMaps (bsyncScan s).out = groupMaps s.out ++ scanReport s.cfg s.bsync := by
  rw [scanReport, if_pos hfull]
  by_cases hrep : reportable s.cfg ((candidate s.bsync.win).map (s.bsync.nbits - 104)) = true
  · rw [bsyncScan_of_reportable hrep, grpDecode_eq, groupMaps_append, List.filter_cons_of_pos hrep]
    rfl
  · rw [bsyncScan_of_not_reportable hrep, List.filter_cons_of_neg hrep]
    exact (List.append_nil _).symm

/-- A bit reports the group of the window it completes. -/
theorem groupMaps_bsyncShift_out (b : Bool) (s : State) :
    groupMaps (bsyncShift b s).out = groupMaps s.out ++ scanReport s.cfg (pushBit b s.bsync) := by
  by_cases hfull : 104 ≤ s.bsync.nbits + 1
  · rw [bsyncShift_of_le b hfull]
    exact groupMaps_bsyncScan_out hfull
  · rw [bsyncShift_of_lt b (Nat.lt_of_not_le hfull), scanReport, pushBit_nbits, if_neg hfull, List.append_nil]

theorem foldr_pushBit_nbits (l : List Bool) (y : Bsync) : (l.foldr pushBit y).nbits = y.nbits + l.length := by
  induction l with
  | nil => rfl
  | cons b l ih => rw [List.foldr_cons, pushBit_nbits, ih, List.length_cons, Nat.add_assoc]

/-- One more bit leaves the windows before it and adds the one it completes. -/
theorem batchGroups_concat (c : Cfg) (bits : List Bool) (b : Bool) {y : Bsync} (h0 : y.nbits = 0) :
    batchGroups c (bits ++ [b]) =
      batchGroups c bits ++ scanReport c ((bits ++ [b]).reverse.foldr pushBit y) := by
  have hlen : (bits ++ [b]).length = bits.length + 1 := by simp
  rw [scanReport, foldr_pushBit_nbits, List.length_reverse, h0, Nat.zero_add, batchGroups, batchGroups, hlen]
  by_cases hfull : 104 ≤ bits.length + 1
  · have holder : ∀ p ∈ List.range (bits.length + 1 - 104),
        (candidate (windowAt (bits ++ [b]) p)).map p = (candidate (windowAt bits p)).map p := fun p hp => by
      rw [windowAt_append (by have := List.mem_range.1 hp; omega)]
    rw [if_pos hfull, foldr_pushBit_win (by omega), hlen, Nat.sub_add_comm hfull, List.range_succ, List.map_append,
      List.filter_append, List.map_congr_left holder]
    rfl
  · rw [if_neg hfull, show bits.length + 1 + 1 - 104 = 0 by omega, show bits.length + 1 - 104 = 0 by omega]
    rfl

/-- One more input after a run (R71). -/
theorem runInputs_concat {xs : List Input} {x : Input} {s t u : State} {o : List OutEvent}
    (hxs : runInputs xs s = some (t, o)) (hx : step (t.present x) = .next u) :
    runInputs (xs ++ [x]) s = some (u, o ++ u.out) := by
  induction xs generalizing s o with
  | nil =>
    obtain ⟨rfl, rfl⟩ : s = t ∧ [] = o := by simpa [runInputs] using hxs
    simp [runInputs, hx]
  | cons y xs ih =>
    rw [runInputs] at hxs
    rw [List.cons_append, runInputs]
    cases hstep : step (s.present y) with
    | next s1 =>
      simp only [hstep, Option.map_eq_some_iff, Prod.exists, Prod.mk.injEq] at hxs ⊢
      obtain ⟨t', o', hrest, rfl, rfl⟩ := hxs
      exact ⟨_, _, ih hrest, rfl, (List.append_assoc ..).symm⟩
    | fault => simp [hstep] at hxs
    | refused => simp [hstep] at hxs

theorem LeavesScan.refl (s : State) : LeavesScan s s := ⟨rfl, rfl, rfl, rfl, rfl, rfl, rfl, rfl, rfl, rfl⟩

theorem LeavesScan.accepting {s t : State} (h : LeavesScan s t) (hs : s.accepting) : t.accepting :=
  ⟨h.cfgOk.trans hs.1, (congrArg Flags.fltConfig h.flags).trans hs.2⟩

/-- Taking a presented input leaves everything but the output list. -/
theorem accept_present_leaves (x : Input) (s : State) : LeavesScan s (s.present x).accept :=
  ⟨rfl, rfl, rfl, rfl, rfl, rfl, rfl, rfl, rfl, rfl⟩

/-- BIT events from the empty window: stage 5 has shifted the bits in, and the reports are the batch form's. -/
theorem runInputs_bitEvents_groupMaps (bits : List Bool) {s : State} (h : s.accepting) (h0 : s.bsync.nbits = 0) :
    ∃ t o, runInputs (bits.map bitEvent) s = some (t, o) ∧ LeavesScan s t ∧
      t.bsync = bits.reverse.foldr pushBit s.bsync ∧ groupMaps o = batchGroups s.cfg bits := by
  induction bits using List.reverseRecOn with
  | nil => exact ⟨s, [], rfl, .refl s, rfl, rfl⟩
  | append_singleton bits b ih =>
    obtain ⟨t, o, hrun, hleaves, hbsync, hgroups⟩ := ih
    have hpush : (bits ++ [b]).reverse.foldr pushBit s.bsync = pushBit b t.bsync := by
      rw [List.reverse_append, hbsync]
      rfl
    refine ⟨_, o ++ (bsyncShift b (t.present (bitEvent b)).accept).out, ?_,
      hleaves.trans ((accept_present_leaves (bitEvent b) t).trans (bsyncShift_leaves b _)), ?_, ?_⟩
    · rw [List.map_append]
      exact runInputs_concat hrun (step_present_bitEvent b (hleaves.accepting h))
    · rw [bsyncShift_bsync, hpush]
      rfl
    · rw [groupMaps_append, groupMaps_bsyncShift_out, hgroups, batchGroups_concat s.cfg bits b h0, hpush,
        ← hleaves.cfg]
      rfl

/-- Settles O58, by induction on the bits from the last one back: each bit adds the window it completes. -/
theorem shiftedBitsReportTheBatchGroups : Obligations.ShiftedBitsReportTheBatchGroups := by
  unfold Obligations.ShiftedBitsReportTheBatchGroups
  intro bits s h h0
  obtain ⟨t, o, hrun, -, hbsync, hgroups⟩ := runInputs_bitEvents_groupMaps bits h h0
  refine ⟨t, o, hrun, hgroups, ?_⟩
  rw [hbsync, foldr_pushBit_nbits, List.length_reverse, h0, Nat.zero_add]

end Sys2Proof.Machine

/-! SUPPORT. The group decoder (45_group_decoder.md): the words it reads, the two block decoders, the arms that write a
text buffer and those that do not, and the two renderings. -/

namespace Sys2Proof.Machine

/-! ## The words of a group (R64, R241) -/

/-- The window holds the 16 bits of the stream from position `off` on (R64). -/
def Bsync.Holds (y : Bsync) (off : Nat) : Prop := off + 16 ≤ y.nbits ∧ y.nbits ≤ off + 104

/-- The 16 bits of the stream from position `off` on, as the window has them (R64). -/
def Bsync.wordAt (y : Bsync) (off : Nat) : Word16 := y.win.extractLsb' (y.nbits - off - 16) 16

theorem readWord_of_holds {y : Bsync} {present : Bool} {off : Nat} (h : present = true → y.Holds off) :
    readWord y present off = some (if present then some (y.wordAt off) else none) := by
  cases present
  · rfl
  · obtain ⟨hnew, hold⟩ := h rfl
    simp [readWord, streamRead, hnew, hold, Bsync.wordAt]

theorem readWord_of_not_holds {y : Bsync} {present : Bool} {off : Nat} (h : ¬ (present = true → y.Holds off)) :
    readWord y present off = none := by
  obtain ⟨rfl, hout⟩ := Classical.not_imp.1 h
  simp only [readWord, if_true, streamRead, Option.map_eq_none_iff]
  exact if_neg fun hread => hout hread.2

theorem readGroup_eq_none {y : Bsync} {pos : Nat} {pA pB pC pD : Bool}
    (h : readWord y pA pos = none ∨ readWord y pB (pos + 26) = none ∨ readWord y pC (pos + 52) = none ∨
      readWord y pD (pos + 78) = none) : readGroup y pos pA pB pC pD = none := by
  unfold readGroup
  split
  next hA hB hC hD => simp [hA, hB, hC, hD] at h
  next => rfl

/-- Every present word of a candidate is held. -/
def Bsync.HoldsGroup (y : Bsync) (pos : Nat) (pA pB pC pD : Bool) : Prop :=
  (pA = true → y.Holds pos) ∧ (pB = true → y.Holds (pos + 26)) ∧ (pC = true → y.Holds (pos + 52)) ∧
    (pD = true → y.Holds (pos + 78))

theorem readGroup_of_holds {y : Bsync} {pos : Nat} {pA pB pC pD : Bool} (h : y.HoldsGroup pos pA pB pC pD) :
    readGroup y pos pA pB pC pD =
      some ⟨if pA then some (y.wordAt pos) else none, if pB then some (y.wordAt (pos + 26)) else none,
        if pC then some (y.wordAt (pos + 52)) else none, if pD then some (y.wordAt (pos + 78)) else none⟩ := by
  obtain ⟨hA, hB, hC, hD⟩ := h
  exact readGroup_eq_some (readWord_of_holds hA) (readWord_of_holds hB) (readWord_of_holds hC) (readWord_of_holds hD)

theorem readGroup_of_not_holds {y : Bsync} {pos : Nat} {pA pB pC pD : Bool} (h : ¬ y.HoldsGroup pos pA pB pC pD) :
    readGroup y pos pA pB pC pD = none := by
  simp only [Bsync.HoldsGroup, not_and_or] at h
  exact readGroup_eq_none
    (h.imp readWord_of_not_holds (.imp readWord_of_not_holds (.imp readWord_of_not_holds readWord_of_not_holds)))

theorem exec_grpDecode_of_readGroup_eq_none {s : State} {pos : Nat} {pA pB pC pD : Bool}
    (h : readGroup s.bsync pos pA pB pC pD = none) :
    exec (.grpDecode pos pA pB pC pD) s = .refused .streamOutOfRange := by
  simp only [exec, execGrpDecode, h]

/-- The current candidate's words are held, and they stand at fixed bits of the window (R219, R241). -/
theorem readGroup_current {y : Bsync} (h : 104 ≤ y.nbits) :
    readGroup y (y.nbits - 104) true true true true =
      some ⟨some (y.win.extractLsb' 88 16), some (y.win.extractLsb' 62 16), some (y.win.extractLsb' 36 16),
        some (y.win.extractLsb' 10 16)⟩ := by
  have hheld : y.HoldsGroup (y.nbits - 104) true true true true := by
    simp only [Bsync.HoldsGroup, Bsync.Holds]
    omega
  have hword (lo k : Nat) (hk : k + 16 + lo = 104) : y.wordAt (y.nbits - 104 + k) = y.win.extractLsb' lo 16 := by
    rw [Bsync.wordAt, show y.nbits - (y.nbits - 104 + k) - 16 = lo by omega]
  rw [readGroup_of_holds hheld, hword 62 26 rfl, hword 36 52 rfl, hword 10 78 rfl,
    show y.wordAt (y.nbits - 104) = _ from hword 88 0 rfl]
  rfl

/-- Settles O35: the words that the window holds are read, the row of block B's word is GRP.DECODE on them, and a
word that it does not hold is refused. -/
theorem grpDecodeDispatchesOnBlockB : Obligations.GrpDecodeDispatchesOnBlockB := by
  unfold Obligations.GrpDecodeDispatchesOnBlockB
  refine ⟨fun pos pA pB pC pD s => ?_, fun s => readGroup_current⟩
  intro held word allHeld a c d st
  refine ⟨fun hheld hB => ?_, fun hheld hB => ?_, fun hout => ?_⟩
  · subst hB
    exact ⟨_, tableRowsAgreeWithTheDispatch _ _ s, exec_grpDecode_of_readGroup (readGroup_of_holds hheld)⟩
  · subst hB
    rw [exec_grpDecode_of_readGroup (readGroup_of_holds hheld), grpDecode_eq]
    have hsome (p : Bool) (w : Word16) : (if p then some w else none).isSome = p := by cases p <;> rfl
    simp only [stationAfter, GroupWords.map, hsome]
    rfl
  · exact exec_grpDecode_of_readGroup_eq_none (readGroup_of_not_holds hout)

/-! ## The block decoders (R242, R243, R245) -/

/-- Settles O36: the fields of block B's word are read back from their concatenation, and the range check passes. -/
theorem blockDecodersSetPiAndPty : Obligations.BlockDecodersSetPiAndPty := by
  unfold Obligations.BlockDecodersSetPiAndPty
  refine ⟨fun w s => rfl, fun gt ver ta pty tail s => ?_⟩
  change exec (.grpDecB (encodeWordB (gt ++ BitVec.ofBool ver) ta pty tail)) s = _
  obtain ⟨hgt, hver⟩ := (wordSel_eq_append_iff _ gt ver).1 (wordSel_encodeWordB _ ta pty tail)
  rw [exec, execGrpDecB, grpDecB_eq, hgt, hver, wordTa_encodeWordB, wordPty_encodeWordB, wordTail_encodeWordB]
  rfl

@[simp] theorem charHi_append (c0 c1 : Byte) : charHi (c0 ++ c1) = c0 := BitVec.extractLsb'_append_eq_left

@[simp] theorem charLo_append (c0 c1 : Byte) : charLo (c0 ++ c1) = c1 := BitVec.extractLsb'_append_eq_right

/-- Settles O37: the two halves of a concatenation. -/
theorem grpDecCdSplitsTheWord : Obligations.GrpDecCdSplitsTheWord := by
  unfold Obligations.GrpDecCdSplitsTheWord
  intro c0 c1 s
  rw [exec, execGrpDecCd, grpDecCd, charHi_append, charLo_append]
  rfl

/-! ## The text buffers (R67, R68, R249 to R251) -/

/-- The character at `j`, which was `old`, after the two characters of `w` are written at `idx` and `idx + 1`
if `w` is present (R67). -/
def charAfter (idx : Nat) (w : Option Word16) (j : Nat) (old : Byte) : Byte :=
  match w with
  | some w => if j = idx then charHi w else if j = idx + 1 then charLo w else old
  | none => old

@[simp] theorem charAfter_none (idx j : Nat) (old : Byte) : charAfter idx none j old = old := rfl

theorem charAfter_append (idx : Nat) (c0 c1 : Byte) (j : Nat) (old : Byte) :
    charAfter idx (some (c0 ++ c1)) j old = if j = idx then c0 else if j = idx + 1 then c1 else old := by
  simp [charAfter]

theorem charAfter_outside {idx j : Nat} (h : j < idx ∨ idx + 2 ≤ j) (w : Option Word16) (old : Byte) :
    charAfter idx w j old = old := by
  cases w
  · rfl
  · rw [charAfter, if_neg (by omega), if_neg (by omega)]

theorem charAfter_inside {idx j : Nat} (h : j = idx ∨ j = idx + 1) (c0 c1 old : Byte) :
    charAfter idx (some (c0 ++ c1)) j old = if j = idx then c0 else c1 := by
  rw [charAfter_append]
  split
  · rfl
  · exact if_pos (by omega)

/-- Two writes side by side in a buffer of any length (R68). -/
theorem get_setIfInBounds_pair {n : Nat} (v : Vector Byte n) (idx : Nat) (w : Word16) (j : Fin n) :
    ((v.setIfInBounds idx (charHi w)).setIfInBounds (idx + 1) (charLo w)).get j =
      charAfter idx (some w) j (v.get j) := by
  simp only [Vector.get_eq_getElem, Vector.getElem_setIfInBounds, charAfter, eq_comm (b := j.val)]
  by_cases h : j.val = idx + 1 <;> simp [h]

theorem arm0A_eq (seg : BitVec 2) (d : Option Word16) (st : Station) :
    arm0A seg d st = { st with name := (arm0A seg d st).name } := by
  cases d <;> rfl

theorem arm0A_name_get (seg : BitVec 2) (d : Option Word16) (st : Station) (j : Fin 8) :
    (arm0A seg d st).name.get j = charAfter (2 * seg.toNat) d j (st.name.get j) := by
  cases d
  · rfl
  · exact get_setIfInBounds_pair ..

theorem arm2A_eq (ab : Bool) (seg : BitVec 4) (c d : Option Word16) (st : Station) :
    arm2A ab seg c d st = { st with rt := (arm2A ab seg c d st).rt } := by
  cases ab <;> cases c <;> cases d <;> rfl

theorem writeRt2_rt_get (idx : Nat) (w : Word16) (st : Station) (j : Fin 64) :
    (writeRt2 idx w st).rt.get j = charAfter idx (some w) j (st.rt.get j) := get_setIfInBounds_pair ..

theorem clearRt_rt_get (st : Station) (j : Fin 64) : (clearRt st).rt.get j = 0x5F := by
  simp [clearRt, Vector.get_eq_getElem, fill]

/-- The clear, then the pair of C, then the pair of D (R250, R251). -/
theorem arm2A_rt_get (ab : Bool) (seg : BitVec 4) (c d : Option Word16) (st : Station) (j : Fin 64) :
    (arm2A ab seg c d st).rt.get j =
      charAfter (4 * seg.toNat + 2) d j (charAfter (4 * seg.toNat) c j (if ab then 0x5F else st.rt.get j)) := by
  have hclear : (if ab then clearRt st else st).rt.get j = if ab then 0x5F else st.rt.get j := by
    cases ab
    · rfl
    · exact clearRt_rt_get ..
  cases c <;> cases d <;> simp only [arm2A, writeRt2_rt_get, charAfter_none, hclear]

/-! ## Reported groups (R246 to R253, R257) -/

/-- Settles O38: the arm writes one field of the station state, and there only the pair at `2·seg`. -/
theorem group0AWritesTheNameSlot : Obligations.Group0AWritesTheNameSlot := by
  unfold Obligations.Group0AWritesTheNameSlot
  intro ta pty unused seg g s
  have hname := arm0A_eq seg g.d
  refine ⟨_, congrArg _ (groupWith_eq ..), congrArg Station.pi (hname _), congrArg Station.piValid (hname _),
    (congrArg Station.pty (hname _)).trans (wordPty_encodeWordB ..), congrArg Station.ptyValid (hname _),
    arm0A_rt .., fun hd => ?_, fun c0 c1 hd j => ?_⟩
  · rw [hd]
    rfl
  · rw [arm0A_name_get, hd, charAfter_append]

/-- Settles O39: the arm writes one field of the station state, and at most one of its two pairs reaches a given
character. -/
theorem group2AClearsThenWritesTheText : Obligations.Group2AClearsThenWritesTheText := by
  unfold Obligations.Group2AClearsThenWritesTheText
  intro ta pty ab seg g s
  have hrt := arm2A_eq ab seg g.c g.d
  refine ⟨_, congrArg _ (groupWith_eq ..), congrArg Station.pi (hrt _), congrArg Station.piValid (hrt _),
    (congrArg Station.pty (hrt _)).trans (wordPty_encodeWordB ..), congrArg Station.ptyValid (hrt _),
    arm2A_name .., fun j hj => ?_, fun j hj => ?_, fun j hj => ?_⟩
  · rw [arm2A_rt_get, charAfter_outside (by omega), charAfter_outside (by omega)]
  · rw [arm2A_rt_get, charAfter_outside (by omega)]
    exact ⟨fun hc => by rw [hc, charAfter_none], fun c0 c1 hc => by rw [hc, charAfter_inside hj]⟩
  · rw [arm2A_rt_get]
    exact ⟨fun hd => by rw [hd, charAfter_none, charAfter_outside (by omega)],
      fun c0 c1 hd => by rw [hd, charAfter_inside hj]⟩

/-- The selecting bits of the rows other than 0A and 2A (R104, R252). -/
def otherSels : List (BitVec 5) := ((List.range 32).map (BitVec.ofNat 5)).filter fun sel => sel ≠ 0#5 ∧ sel ≠ 4#5

theorem map_exec_otherGroups (ta : Bool) (pty tail : BitVec 5) (g : GroupRest) (s : State) :
    (Instr.otherGroups ta pty tail g).map (exec · s) =
      otherSels.map fun sel => .next (otherGroup sel ta pty tail g s) := rfl

/-- Settles O40: each of the thirty rows is the group of the arm OTHER, which leaves the station state as it is. -/
theorem otherGroupsLeaveTheTextAlone : Obligations.OtherGroupsLeaveTheTextAlone := by
  unfold Obligations.OtherGroupsLeaveTheTextAlone
  intro ta pty tail g s i hi
  have hmem := List.mem_map_of_mem (f := (exec · s)) hi
  rw [map_exec_otherGroups] at hmem
  obtain ⟨sel, -, e⟩ := List.mem_map.1 hmem
  simp only [← e, otherGroup, groupWith_eq, wordPty_encodeWordB, armOther]

/-! ## The renderings (R258, R259) -/

theorem hexDigit_eq_getD : ∀ n : BitVec 4, hexDigit n = "0123456789ABCDEF".toList.getD n.toNat ' ' := by decide

/-- The digits of a PI are read from the top (R258). -/
theorem piHex_append (a b c d : BitVec 4) :
    piHex true (a ++ b ++ c ++ d) = [hexDigit a, hexDigit b, hexDigit c, hexDigit d] := by
  have ha : (a ++ b ++ c ++ d).extractLsb' 12 4 = a := by
    rw [BitVec.extractLsb'_append_eq_of_le (by decide), BitVec.extractLsb'_append_eq_of_le (by decide)]
    exact BitVec.extractLsb'_append_eq_left
  have hb : (a ++ b ++ c ++ d).extractLsb' 8 4 = b := by
    rw [BitVec.extractLsb'_append_eq_of_le (by decide), BitVec.extractLsb'_append_eq_of_le (by decide)]
    exact BitVec.extractLsb'_append_eq_right
  have hc : (a ++ b ++ c ++ d).extractLsb' 4 4 = c := by
    rw [BitVec.extractLsb'_append_eq_of_le (by decide)]
    exact BitVec.extractLsb'_append_eq_right
  have hd : (a ++ b ++ c ++ d).extractLsb' 0 4 = d := BitVec.extractLsb'_append_eq_right
  rw [piHex, if_pos rfl, ha, hb, hc, hd]

/-- Settles O42: the digits of a concatenation of four, each looked up in the table of sixteen. -/
theorem piHexRendersFourDigits : Obligations.PiHexRendersFourDigits := by
  unfold Obligations.PiHexRendersFourDigits
  intro a b c d s digit
  refine ⟨?_, rfl⟩
  rw [exec, execPiHex, piHex_append, hexDigit_eq_getD, hexDigit_eq_getD, hexDigit_eq_getD, hexDigit_eq_getD]
  rfl

theorem exec_ptyName_of_le {k : Nat} (h : k ≤ 31) (s : State) :
    exec (.ptyName (some k)) s = .next (s.withResult (.text (ptyEntry s.cfg k))) := by
  simp only [exec, execPtyName, ptyName, h, if_true]

theorem exec_ptyName_of_gt {k : Nat} (h : 31 < k) (s : State) :
    exec (.ptyName (some k)) s = .next ((raise .protocolError s).withResult (.error .protocolError)) := by
  simp only [exec, execPtyName, ptyName, if_neg h.not_ge]

/-- The entries 1 to 30 are the configuration's (R8). -/
theorem ptyEntry_succ (c : Cfg) (k : Fin 30) : ptyEntry c (k.val + 1) = c.ptyNames.get k := by
  rw [ptyEntry, if_neg (by omega), if_neg (by omega), Nat.add_sub_cancel, Vector.getElem?_eq_getElem k.isLt]
  rfl

/-- Settles O43: a code up to 31 is its entry of the table, any other the error. -/
theorem ptyNameLooksUpOrRejects : Obligations.PtyNameLooksUpOrRejects := by
  unfold Obligations.PtyNameLooksUpOrRejects
  refine fun s => ⟨rfl, exec_ptyName_of_le (by decide) s, exec_ptyName_of_le le_rfl s, fun k => ?_,
    fun c hc => exec_ptyName_of_gt hc s⟩
  rw [exec_ptyName_of_le (by omega), ptyEntry_succ]
  rfl

end Sys2Proof.Machine

/-! SUPPORT. The port events (46_port_events.md): what a step does with the input it takes, the five strobe vectors,
the output of a sample, and the one report of a well-formed group. -/

namespace Sys2Proof.Machine

/-! ## The input a step takes (R281, R286) -/

/-- A step runs the instruction that the first input in line decodes to. -/
theorem step_of_decode {x : Input} {i : Instr} {q : List Input} {s : State} (hs : s.inputs = x :: q)
    (hx : decode x = .ok i) : step s = exec i s.accept := by
  simp only [step, hs, hx]

/-- A 10-bit value hands on its label, or none (R107, R215). -/
theorem step_of_synCode {c : BitVec 10} {q : List Input} {s : State} (hs : s.inputs = .synCode c :: q) :
    step s = .next (s.accept.withResult (.label (labelOfSyndrome c))) := by
  cases hc : labelOfSyndrome c with
  | some l =>
    have hdecode : decode (.synCode c) = .ok (synOfLabel l) := by simp only [decode, decodeSyn, hc]
    rw [step_of_decode hs hdecode, exec_synOfLabel, labelled]
  | none => simp only [step, hs, decode, decodeSyn, hc, raise_syncMiss]

theorem accept_of_inputs_eq_nil {s : State} (h : s.inputs = []) : s.accept = { s with out := [] } := by
  rw [State.accept, h, List.tail_nil, ← h]

/-- Settles O47: the decoded instruction, the empty queue, and a value that has no label. -/
theorem stepRunsTheDecodedInstruction : Obligations.StepRunsTheDecodedInstruction := by
  unfold Obligations.StepRunsTheDecodedInstruction
  refine ⟨fun x i s hx => step_of_decode (s := s.present x) rfl hx, fun s hnone => ?_, fun c s hc => ?_⟩
  · rw [← accept_of_inputs_eq_nil hnone, step, hnone]
  · have hlabel : labelOfSyndrome c = none := by
      simp only [List.mem_cons, List.not_mem_nil, or_false, not_or] at hc
      obtain ⟨hA, hB, hC, hD, hCp⟩ := hc
      rw [labelOfSyndrome_eq_of_toNat, if_neg hA, if_neg hB, if_neg hC, if_neg hD, if_neg hCp]
    rw [step_of_synCode (s := s.present (.synCode c)) rfl, hlabel]
    rfl

/-! ## IDLE and the reserved vector (R285, R290) -/

theorem exec_idle_accepting {s : State} (h : s.accepting) : exec .idle s = .next s :=
  congrArg Host.Outcome.next (portEvent_accepting h id)

theorem step_present_idle (z : Cplx) (b : Bool) {s : State} (h : s.accepting) :
    step (s.present (.strobes 0b000#3 z b)) = .next { s with out := [] } :=
  exec_idle_accepting (s := { s with out := [] }) h

/-- Settles O4: the first IDLE empties the output list, and no further one changes anything. -/
theorem idleChangesNothing : Obligations.IdleChangesNothing := by
  unfold Obligations.IdleChangesNothing
  refine fun s h => ⟨exec_idle_accepting h, fun n z b => ?_⟩
  induction n generalizing s with
  | zero =>
    rw [List.replicate_one, runInputs, step_present_idle z b h]
    rfl
  | succ n ih =>
    have hrest := ih { s with out := [] } h
    rw [List.replicate_succ, runInputs, step_present_idle z b h]
    dsimp only
    rw [hrest]
    rfl

/-- Settles O5: the vector decodes to the reserved event, which passes the gate and sets the mark. -/
theorem reservedStrobeSetsOnlyTheMark : Obligations.ReservedStrobeSetsOnlyTheMark := by
  unfold Obligations.ReservedStrobeSetsOnlyTheMark
  exact ⟨fun z b => rfl, fun s h => congrArg Host.Outcome.next (portEvent_accepting h (raise .refused))⟩

/-! ## Batches (R71, R281, R282) -/

/-- Running under another queue of waiting inputs changes the queue and nothing else. -/
def IgnoresQueue (f : State → State) : Prop :=
  ∀ (s : State) (q : List Input), f { s with inputs := q } = { f s with inputs := q }

theorem IgnoresQueue.inputs {f : State → State} (h : IgnoresQueue f) (s : State) : (f s).inputs = s.inputs :=
  (congrArg State.inputs (h s s.inputs) :)

theorem resetEvent_ignoresQueue : IgnoresQueue resetEvent := by
  intro s q
  unfold resetEvent
  dsimp only
  split <;> rfl

theorem portEvent_ignoresQueue {f : State → State} (h : IgnoresQueue f) : IgnoresQueue (portEvent f) :=
  fun s q => portEvent_inputs f s q (h s q)

/-- Each of the eight strobe vectors stands for one function of the state (R91). -/
theorem exists_exec_decodeStrobe (v : BitVec 3) (z : Cplx) (b : Bool) :
    ∃ f, IgnoresQueue f ∧ ∀ s, exec (decodeStrobe v z b) s = .next (f s) := by
  unfold decodeStrobe
  split
  · exact ⟨resetEvent, resetEvent_ignoresQueue, fun _ => rfl⟩
  · split
    · exact ⟨portEvent (demodStep z), portEvent_ignoresQueue (demodStep_inputs z), fun _ => rfl⟩
    · exact ⟨portEvent (bsyncShift b), portEvent_ignoresQueue (bsyncShift_inputs b), fun _ => rfl⟩
    · exact ⟨portEvent id, portEvent_ignoresQueue fun _ _ => rfl, fun _ => rfl⟩
    · exact ⟨portEvent (raise .refused), portEvent_ignoresQueue fun _ _ => rfl, fun _ => rfl⟩

/-- Every input stands for one function of the state that took it, which does not read the rest of the queue. -/
theorem exists_step_eq (x : Input) :
    ∃ f, IgnoresQueue f ∧ ∀ (s : State) (q : List Input), s.inputs = x :: q → step s = .next (f s.accept) := by
  cases x with
  | strobes v z b =>
    obtain ⟨f, hf, hexec⟩ := exists_exec_decodeStrobe v z b
    exact ⟨f, hf, fun s q hs => (step_of_decode hs rfl).trans (hexec s.accept)⟩
  | synCode c => exact ⟨(·.withResult (.label (labelOfSyndrome c))), fun _ _ => rfl, fun s q hs => step_of_synCode hs⟩
  | wordB w g =>
    exact ⟨grpDecode g.pos ⟨g.a, some w, g.c, g.d⟩, grpDecode_inputs g.pos _,
      fun s q hs => (step_of_decode hs rfl).trans (tableRowsAgreeWithTheDispatch w g s.accept)⟩

/-- A step takes one input: the next state depends neither on the inputs behind it nor on the output before it. -/
theorem exists_step_present (x : Input) (s : State) :
    ∃ t, step (s.present x) = .next t ∧ t.inputs = s.inputs ∧
      ∀ (o : List OutEvent) (q : List Input),
        step { s with out := o, inputs := x :: q } = .next { t with inputs := q } := by
  obtain ⟨f, hf, hstep⟩ := exists_step_eq x
  refine ⟨f { s with out := [] }, hstep (s.present x) s.inputs rfl, hf.inputs _, fun o q => ?_⟩
  rw [hstep { s with out := o, inputs := x :: q } q rfl, ← hf]
  rfl

/-- A batch presented one by one runs as it does from the head of the queue, whatever waits behind it. -/
theorem exists_runInputs_eq_runSteps (xs : List Input) (s : State) :
    ∃ t o, runInputs xs s = some (t, o) ∧ t.inputs = s.inputs ∧
      ∀ q, runSteps xs.length { s with inputs := xs ++ q } = some ({ t with inputs := q }, o) := by
  induction xs generalizing s with
  | nil => exact ⟨s, [], rfl, rfl, fun q => rfl⟩
  | cons x xs ih =>
    obtain ⟨s1, hstep, hinputs, hqueue⟩ := exists_step_present x s
    obtain ⟨t, o, hrun, htail, hsteps⟩ := ih s1
    refine ⟨t, s1.out ++ o, ?_, htail.trans hinputs, fun q => ?_⟩
    · simp only [runInputs, hstep, hrun, Option.map_some]
    · have hfirst := hqueue s.out (xs ++ q)
      simp only [List.length_cons, List.cons_append, runSteps, hfirst, hsteps, Option.map_some]

/-- Two batches are one (R71). -/
theorem runInputs_append {xs ys : List Input} {s t u : State} {o p : List OutEvent}
    (hxs : runInputs xs s = some (t, o)) (hys : runInputs ys t = some (u, p)) :
    runInputs (xs ++ ys) s = some (u, o ++ p) := by
  induction xs generalizing s o with
  | nil =>
    obtain ⟨rfl, rfl⟩ : s = t ∧ [] = o := by simpa [runInputs] using hxs
    exact hys
  | cons x xs ih =>
    obtain ⟨s1, hstep, -, -⟩ := exists_step_present x s
    obtain ⟨t1, o1, hrun, -, -⟩ := exists_runInputs_eq_runSteps xs s1
    obtain ⟨rfl, rfl⟩ : t1 = t ∧ s1.out ++ o1 = o := by simpa [runInputs, hstep, hrun] using hxs
    simp only [List.cons_append, runInputs, hstep, ih hrun, Option.map_some, List.append_assoc]

/-- Settles O48: the queue of both batches runs as one batch does, and that is the first one and then the second. -/
theorem batchBoundariesAreInvisible : Obligations.BatchBoundariesAreInvisible := by
  unfold Obligations.BatchBoundariesAreInvisible
  refine ⟨exists_step_present, fun xs ys s => ?_⟩
  obtain ⟨t, o, hxs, -, -⟩ := exists_runInputs_eq_runSteps xs s
  obtain ⟨u, p, hys, -, -⟩ := exists_runInputs_eq_runSteps ys t
  obtain ⟨u', op, hboth, hinputs, hsteps⟩ := exists_runInputs_eq_runSteps (xs ++ ys) s
  obtain ⟨rfl, rfl⟩ : u = u' ∧ o ++ p = op := by simpa using (runInputs_append hxs hys).symm.trans hboth
  refine ⟨t, u, o, p, hxs, hys, ?_⟩
  rw [← List.length_append, hsteps, ← hinputs]

/-! ## BIT (R289) -/

/-- A bit emits nothing, or one group with the station state as it then is, at the position of its window. -/
theorem bsyncShift_out (b : Bool) (s : State) :
    ((bsyncShift b s).out = s.out ∧ (bsyncShift b s).station = s.station) ∨
      ∃ m : GMap, (bsyncShift b s).out = s.out ++ [.group m (bsyncShift b s).station] ∧
        m.pos + 104 = (bsyncShift b s).bsync.nbits := by
  rcases bsyncShift_cases b s with h | ⟨hfull, -, h⟩ <;> rw [h]
  · exact .inl ⟨rfl, rfl⟩
  · rw [grpDecode_eq]
    exact .inr ⟨_, rfl, Nat.sub_add_cancel hfull⟩

/-- Settles O3: stage 5 is entered directly, and what it leaves alone is `bsyncShift_leaves`. -/
theorem bitGoesStraightToTheScanner : Obligations.BitGoesStraightToTheScanner := by
  unfold Obligations.BitGoesStraightToTheScanner
  intro b s h
  have hexec : exec (.bit b) s = .next (bsyncShift b s) := congrArg Host.Outcome.next (portEvent_accepting h _)
  obtain ⟨hdemod, hpll, hsync, hdiff, hflags, hcfg, hcfgIn, hcfgOk, hinputs, -⟩ := bsyncShift_leaves b s
  have hnbits : (bsyncShift b s).bsync.nbits = s.bsync.nbits + 1 := congrArg Bsync.nbits (bsyncShift_bsync b s)
  exact ⟨_, rfl, hexec, hdemod, hpll, hsync, hdiff, hflags, hcfg, hcfgIn, hcfgOk, hinputs, hnbits,
    bsyncShift_out b s⟩

/-! ## SAMPLE (R286, R288) -/

/-- Settles O2: the gate lets the sample through, and no stage writes what the host owns. -/
theorem sampleRunsTheDemodulator : Obligations.SampleRunsTheDemodulator := by
  unfold Obligations.SampleRunsTheDemodulator
  intro z s h
  obtain ⟨hflags, hcfg, hcfgIn, hcfgOk, hinputs, -⟩ := demodStep_host z s
  exact ⟨demodStep z s, rfl, exec_sample_accepting h rfl, hflags, hcfg, hcfgIn, hcfgOk, hinputs⟩

/-- A symbol after the first emits its bit and at most one group; the first one emits nothing (R201). -/
theorem diffStep_out (x : Bool) (s : State) :
    (diffStep x s).out = s.out ∨ (∃ b, (diffStep x s).out = s.out ++ [.bit b]) ∨
      ∃ b m, (diffStep x s).out = s.out ++ [.bit b, .group m (diffStep x s).station] := by
  cases hvalid : s.diff.dValid with
  | false =>
    rw [diffStep_of_not_dValid x hvalid]
    exact .inl rfl
  | true =>
    rw [diffStep_of_dValid x hvalid]
    dsimp only
    rcases bsyncShift_out (x ^^ s.diff.dPrev) (emit (.bit (x ^^ s.diff.dPrev)) s) with ⟨hout, -⟩ | ⟨m, hout, -⟩ <;>
      rw [hout, emit_out]
    · exact .inr (.inl ⟨_, rfl⟩)
    · exact .inr (.inr ⟨_, m, List.append_assoc ..⟩)

/-- From `s` to `t` the output has grown by one of the four lists of a sample (R286). -/
def EmitsInOrder (s t : State) : Prop :=
  ∃ es : List OutEvent, t.out = s.out ++ es ∧
    (es = [] ∨ (∃ x, es = [.sym x]) ∨ (∃ x b, es = [.sym x, .bit b]) ∨
      ∃ x b m, es = [.sym x, .bit b, .group m t.station])

theorem EmitsInOrder.of_out_eq {s t : State} (h : t.out = s.out) : EmitsInOrder s t :=
  ⟨[], by rw [h, List.append_nil], .inl rfl⟩

/-- A symbol and what stages 4 to 6 make of it (R181). -/
theorem emitSymbol_emitsInOrder (a : Scalar) (s : State) : EmitsInOrder s (emitSymbol a s) := by
  unfold EmitsInOrder emitSymbol
  rcases diffStep_out (rawSymbol a s.sync) (emit (.sym (rawSymbol a s.sync)) s) with h | ⟨b, h⟩ | ⟨b, m, h⟩ <;>
    rw [h, emit_out]
  · exact ⟨_, rfl, .inr (.inl ⟨_, rfl⟩)⟩
  · exact ⟨_, List.append_assoc .., .inr (.inr (.inl ⟨_, b, rfl⟩))⟩
  · exact ⟨_, List.append_assoc .., .inr (.inr (.inr ⟨_, b, m, rfl⟩))⟩

theorem afterSymbol_emitsInOrder (a : Scalar) (s : State) : EmitsInOrder s (afterSymbol a s) := by
  unfold afterSymbol
  dsimp only
  split
  · exact emitSymbol_emitsInOrder a { s with sync := recordErr (parity s.sync) a s.sync }
  · exact .of_out_eq rfl

theorem syncDump_emitsInOrder (lo : Sign) (s : State) : EmitsInOrder s (syncDump lo s) := by
  rw [syncDump_eq]
  split
  · exact afterSymbol_emitsInOrder s.sync.acc s
  · exact .of_out_eq rfl

/-- Before its dump a tick emits nothing, and after it no more (R171). -/
theorem syncTick_emitsInOrder (bb : Scalar) (s : State) : EmitsInOrder s (syncTick bb s) := by
  rw [syncTick_eq, syncBeforeDump_eq]
  exact syncDump_emitsInOrder (syncClock s).2 { s with sync := (syncBeforeDump bb s).sync }

theorem pllStep_emitsInOrder (y : Scalar) (s : State) : EmitsInOrder s (pllStep y s) := by
  rw [pllStep_eq, pllTickcnt_eq]
  dsimp only
  split
  · exact syncTick_emitsInOrder (pllAfter y s).2
      { s with pll := (pllAfter y s).1, sync := { s.sync with n2 := advance s.sync.n2 s.cfg.dec2 } }
  · exact .of_out_eq rfl

theorem demodStep_emitsInOrder (z : Cplx) (s : State) : EmitsInOrder s (demodStep z s) := by
  rw [demodStep_eq]
  split
  · exact pllStep_emitsInOrder _ { s with demod := { demodAfter z s with vPrev := mixed z s } }
  · exact .of_out_eq rfl

/-- Settles O54: only SYNC.HALFSYM emits, a symbol at most, and only DIFF.STEP and the scanner after it. -/
theorem sampleEmitsInOrder : Obligations.SampleEmitsInOrder := by
  unfold Obligations.SampleEmitsInOrder
  intro z s h
  obtain ⟨es, hout, horder⟩ := demodStep_emitsInOrder z s
  exact ⟨demodStep z s, es, exec_sample_accepting h rfl, hout, horder⟩

/-! ## RESET (R8, R9, R287, R340) -/

/-- DEC1 and DEC2 are floors taken as natural numbers, so a positive one is the floor itself (R8). -/
theorem one_le_dec1_iff (c : Cfg) : 1 ≤ c.dec1 ↔ 1 ≤ ⌊c.fsIn / c.bw⌋ := Int.pos_iff_toNat_pos.symm

theorem one_le_dec2_iff (c : Cfg) : 1 ≤ c.dec2 ↔ 1 ≤ ⌊c.fsMpx / 7125⌋ := Int.pos_iff_toNat_pos.symm

theorem dec1_eq_floor {c : Cfg} (h : 1 ≤ c.dec1) : (c.dec1 : Int) = ⌊c.fsIn / c.bw⌋ :=
  Int.toNat_of_nonneg (zero_le_one.trans ((one_le_dec1_iff c).1 h))

theorem dec2_eq_floor {c : Cfg} (h : 1 ≤ c.dec2) : (c.dec2 : Int) = ⌊c.fsMpx / 7125⌋ :=
  Int.toNat_of_nonneg (zero_le_one.trans ((one_le_dec2_iff c).1 h))

theorem fsMpx_eq_div_floor {c : Cfg} (h : 1 ≤ c.dec1) : c.fsMpx = c.fsIn / (⌊c.fsIn / c.bw⌋ : Scalar) := by
  rw [Cfg.fsMpx, ← dec1_eq_floor h, Int.cast_natCast]

/-- Legality in the floors of R8. -/
theorem legal_iff_floors (c : Cfg) :
    c.legal ↔ 1 ≤ ⌊c.fsIn / c.bw⌋ ∧ 1 ≤ ⌊c.fsIn / (⌊c.fsIn / c.bw⌋ : Scalar) / 7125⌋ ∧
      1 ≤ c.minLabels ∧ c.minLabels ≤ 4 := by
  rw [Cfg.legal, ← one_le_dec1_iff]
  refine and_congr_right fun hdec1 => and_congr_left fun _ => ?_
  rw [one_le_dec2_iff, fsMpx_eq_div_floor hdec1]

/-- After an illegal configuration the gate lets nothing through but the mark (R287, R305). -/
theorem portEvent_of_cfgNotOk (f : State → State) {s : State} (hok : s.cfgOk = false)
    (hmark : raise .refused s = s) : portEvent f s = s := by
  rw [portEvent, if_pos hok, hmark]

/-- Settles O1: the floors of R8, the strobe bit `rst`, and the two sides of the legality test. -/
theorem resetTakesEveryElementToItsResetValue : Obligations.ResetTakesEveryElementToItsResetValue := by
  unfold Obligations.ResetTakesEveryElementToItsResetValue
  refine ⟨fun c => ⟨legal_iff_floors c, fun hlegal => ?_⟩, fun v z b hrst => ?_, fun s hlegal => ?_,
    fun s hillegal => ⟨_, congrArg Host.Outcome.next (if_neg hillegal), rfl, fun z b i hi => ?_⟩⟩
  · obtain ⟨hdec1, hdec2, -⟩ := hlegal
    have hmpx := fsMpx_eq_div_floor hdec1
    exact ⟨dec1_eq_floor hdec1, hmpx, hmpx ▸ dec2_eq_floor hdec2⟩
  · rw [decode, decodeStrobe, if_pos hrst]
  · exact congrArg Host.Outcome.next (if_pos hlegal)
  · simp only [List.mem_cons, List.not_mem_nil, or_false] at hi
    rcases hi with rfl | rfl | rfl | rfl <;> exact congrArg Host.Outcome.next (portEvent_of_cfgNotOk _ rfl rfl)

/-! ## One well-formed group (R110, R289) -/

/-- An encoded block has the label it was encoded with (R95, R214). -/
theorem classify_mkBlock (l : Label) (d : Word16) : classify (mkBlock l d) = some l := by
  rw [labelIsTheOffsetWordOfTheCheck, blockCheck, blockData, mkBlock, BitVec.extractLsb'_append_eq_right,
    BitVec.extractLsb'_append_eq_left]

theorem wordIf_mkBlock (l : Label) (d : Word16) : wordIf l (mkBlock l d) = some d := by
  rw [wordIf, windowIs, classify_mkBlock, decide_eq_true rfl, if_pos rfl, blockData, mkBlock,
    BitVec.extractLsb'_append_eq_left]

/-- The four words of a well-formed group are read back from its window (R219). -/
theorem candidate_mkGroup (a b c d : Word16) : candidate (mkGroup a b c d) = ⟨some a, some b, some c, some d⟩ := by
  have hA : blockA (mkGroup a b c d) = mkBlock .A a := by
    rw [blockA, mkGroup, BitVec.extractLsb'_append_eq_of_le (by decide),
      BitVec.extractLsb'_append_eq_of_le (by decide)]
    exact BitVec.extractLsb'_append_eq_left
  have hB : blockB (mkGroup a b c d) = mkBlock .B b := by
    rw [blockB, mkGroup, BitVec.extractLsb'_append_eq_of_le (by decide),
      BitVec.extractLsb'_append_eq_of_le (by decide)]
    exact BitVec.extractLsb'_append_eq_right
  have hC : blockC (mkGroup a b c d) = mkBlock .C c := by
    rw [blockC, mkGroup, BitVec.extractLsb'_append_eq_of_le (by decide)]
    exact BitVec.extractLsb'_append_eq_right
  have hD : blockD (mkGroup a b c d) = mkBlock .D d := BitVec.extractLsb'_append_eq_right
  rw [candidate, hA, hB, hC, hD, wordIf_mkBlock, wordIf_mkBlock, wordIf_mkBlock, wordIf_mkBlock]

theorem streamBits_append_toNat {m n : Nat} (x : BitVec m) (y : BitVec n) :
    streamBits (x ++ y).toNat (m + n) = streamBits x.toNat m ++ streamBits y.toNat n := by
  have hx : (x ++ y).toNat >>> n % 2 ^ m = x.toNat := by
    rw [← BitVec.extractLsb'_toNat, BitVec.extractLsb'_append_eq_left]
  have hy : (x ++ y).toNat % 2 ^ n = y.toNat := by
    rw [← Nat.shiftRight_zero (n := (x ++ y).toNat), ← BitVec.extractLsb'_toNat, BitVec.extractLsb'_append_eq_right]
  rw [streamBits_append, ← streamBits_mod (_ >>> n), hx, ← streamBits_mod _ n, hy]

/-- The bits of a group, in stream order (R62, R110). -/
def groupBits (a b c d : Word16) : List Bool := streamBits (mkGroup a b c d).toNat 104

theorem length_groupBits (a b c d : Word16) : (groupBits a b c d).length = 104 := by
  simp [groupBits, streamBits]

theorem expand_group (a b c d : Word16) : (Stim.group a b c d).expand = (groupBits a b c d).map bitEvent := by
  have hbits : groupBits a b c d =
      streamBits (mkBlock .A a).toNat 26 ++ streamBits (mkBlock .B b).toNat 26 ++
        streamBits (mkBlock .C c).toNat 26 ++ streamBits (mkBlock .D d).toNat 26 := by
    rw [← streamBits_append_toNat, ← streamBits_append_toNat, ← streamBits_append_toNat]
    rfl
  rw [hbits, List.map_append, List.map_append, List.map_append]
  rfl

/-- The bits of a 104-bit value, shifted in, fill the window with it (R218). -/
theorem foldr_pushBit_streamBits (w : BitVec 104) (y : Bsync) :
    ((streamBits w.toNat 104).reverse.foldr pushBit y).win = w := by
  apply BitVec.eq_of_getLsbD_eq
  intro i hi
  rw [foldr_pushBit_getLsbD _ _ (by simpa [streamBits] using hi) hi]
  simp [streamBits, hi, List.getD_eq_getElem?_getD, BitVec.getLsbD]

theorem foldr_pushBit_groupBits (a b c d : Word16) (w : BitVec 104) :
    (groupBits a b c d).reverse.foldr pushBit ⟨w, 0⟩ = ⟨mkGroup a b c d, 104⟩ := by
  have hwin := foldr_pushBit_streamBits (mkGroup a b c d) ⟨w, 0⟩
  have hnbits := foldr_pushBit_nbits (groupBits a b c d).reverse ⟨w, 0⟩
  rw [List.length_reverse, length_groupBits] at hnbits
  exact congrArg₂ Bsync.mk hwin hnbits

/-- With no output left over, a BIT event is its shift and nothing else (R286, R289). -/
theorem step_present_bitEvent_of_out (b : Bool) {s : State} (h : s.accepting) (hout : s.out = []) :
    step (s.present (bitEvent b)) = .next (bsyncShift b s) := by
  have hempty : (s.present (bitEvent b)).accept = s := by
    cases s
    cases hout
    rfl
  rw [step_present_bitEvent b h, hempty]

/-- While the window is not full, BIT events shift their bits in and emit nothing (R218). -/
theorem runInputs_bitEvents_of_lt (bits : List Bool) {s : State} (h : s.accepting) (hout : s.out = [])
    (hlen : s.bsync.nbits + bits.length < 104) :
    runInputs (bits.map bitEvent) s = some ({ s with bsync := bits.reverse.foldr pushBit s.bsync }, []) := by
  induction bits generalizing s with
  | nil => rfl
  | cons b bits ih =>
    rw [List.length_cons] at hlen
    have hrest := ih (s := { s with bsync := pushBit b s.bsync }) h hout (by rw [pushBit_nbits]; omega)
    rw [List.map_cons, runInputs, step_present_bitEvent_of_out b h hout,
      bsyncShift_of_lt b (by omega)]
    dsimp only
    rw [hrest, Option.map_some, hout, List.reverse_cons, List.foldr_append]
    rfl

/-- The 104th bit from the empty window is the first that is scanned (R218). -/
theorem runInputs_bitEvents_of_eq {bits : List Bool} {s : State} (h : s.accepting) (hout : s.out = [])
    (h0 : s.bsync.nbits = 0) (hlen : bits.length = 104) {y : Bsync} (hy : bits.reverse.foldr pushBit s.bsync = y) :
    runInputs (bits.map bitEvent) s =
      some (bsyncScan { s with bsync := y }, (bsyncScan { s with bsync := y }).out) := by
  obtain rfl | ⟨first, b, rfl⟩ := List.eq_nil_or_concat' bits
  · cases hlen
  · have hfirst : first.length = 103 := by simpa using hlen
    have hnbits : (first.reverse.foldr pushBit s.bsync).nbits = 103 := by
      rw [foldr_pushBit_nbits, h0, List.length_reverse, hfirst]
    have hrun := runInputs_bitEvents_of_lt first h hout (by omega)
    have hlast := step_present_bitEvent_of_out b (s := { s with bsync := first.reverse.foldr pushBit s.bsync }) h hout
    rw [bsyncShift_of_le b (by dsimp only; omega)] at hlast
    rw [List.map_append, ← hy, List.reverse_append]
    exact runInputs_concat hrun hlast

/-- The dispatch writes the text buffers only (R248 to R252). -/
theorem dispatchArm_writes_text (w : Word16) (c d : Option Word16) (st : Station) :
    ∃ name rt, dispatchArm w c d st = { st with name := name, rt := rt } := by
  unfold dispatchArm
  split
  · exact ⟨_, _, arm0A_eq ..⟩
  · split
    · exact ⟨_, _, arm2A_eq ..⟩
    · exact ⟨_, _, rfl⟩

/-- A full window that holds a well-formed group is reported with all four blocks (R219, R221). -/
theorem bsyncScan_mkGroup {a b c d : Word16} {s : State} (hmin : s.cfg.minLabels ≤ 4)
    (hwin : s.bsync.win = mkGroup a b c d) :
    bsyncScan s = grpDecode (s.bsync.nbits - 104) ⟨some a, some b, some c, some d⟩ s := by
  have hcand : candidate s.bsync.win = ⟨some a, some b, some c, some d⟩ := by rw [hwin, candidate_mkGroup]
  have hrep : reportable s.cfg ((candidate s.bsync.win).map (s.bsync.nbits - 104)) = true := by
    rw [hcand]
    exact decide_eq_true hmin
  rw [bsyncScan_of_reportable hrep, hcand]

/-- Settles O60: the 104th bit completes a window with all four labels, and no earlier bit is scanned. -/
theorem oneWellFormedGroupIsReportedOnce : Obligations.OneWellFormedGroupIsReportedOnce := by
  unfold Obligations.OneWellFormedGroupIsReportedOnce
  intro c a b d e hmin
  have hrun := runInputs_bitEvents_of_eq (s := State.s0 c) ⟨rfl, rfl⟩ rfl rfl (length_groupBits a b d e)
    (foldr_pushBit_groupBits a b d e 0#104)
  rw [bsyncScan_mkGroup hmin rfl, grpDecode_eq] at hrun
  obtain ⟨name, rt, harm⟩ := dispatchArm_writes_text b (some d) (some e)
    { (State.s0 c).station with pi := a, piValid := true, pty := wordPty b, ptyValid := true }
  rw [expand_group]
  exact ⟨_, _, hrun, rfl, congrArg Station.pi harm, congrArg Station.piValid harm, congrArg Station.pty harm,
    congrArg Station.ptyValid harm, rfl, rfl⟩

end Sys2Proof.Machine

/-! SUPPORT. The fault flags are sticky (60_exceptions.md R300 to R306): an operation other than RESET leaves the flags
that one recorded cause leaves, and no step records a ConfigurationError or a ProtocolError. -/

namespace Sys2Proof.Machine

/-! ## One recorded cause (R300, R306) -/

/-- The flags of `t` are those of `s` with the cause `c` recorded; a SyncMiss records nothing (R303). -/
def Records (c : Cause) (s t : State) : Prop := t.flags = (raise c s).flags

theorem Records.keeps {c : Cause} {s t : State} (h : Records c s t) :
    (s.flags.fltConfig = true → t.flags.fltConfig = true) ∧
      (s.flags.fltProto = true → t.flags.fltProto = true) ∧
      (s.flags.refused = true → t.flags.refused = true) := by
  rw [Records] at h
  rw [h]
  cases c <;> simp

theorem Records.error_of_error {c : Cause} {s t : State} (h : Records c s t) (hconfig : c ≠ .configurationError)
    (hproto : c ≠ .protocolError) :
    (t.flags.fltConfig = true → s.flags.fltConfig = true) ∧ (t.flags.fltProto = true → s.flags.fltProto = true) := by
  rw [Records] at h
  rw [h]
  cases c with
  | configurationError => contradiction
  | protocolError => contradiction
  | syncMiss | resourceError | refused => exact ⟨id, id⟩

/-! ## Operations that leave the flags alone -/

theorem grpDecB_flags (w : Word16) (s : State) : (grpDecB w s).flags = s.flags := by rw [grpDecB_eq]

theorem grpDecode_flags (pos : Nat) (g : GroupWords) (s : State) : (grpDecode pos g s).flags = s.flags := by
  rw [grpDecode_eq]

theorem groupWith_flags (w : Word16) (arm : Station → Station) (g : GroupRest) (s : State) :
    (groupWith w arm g s).flags = s.flags := by
  rw [groupWith_eq]

theorem bsyncScan_flags (s : State) : (bsyncScan s).flags = s.flags := by
  rcases bsyncScan_cases s with ⟨-, e⟩ | ⟨-, e⟩ <;> rw [e]
  exact grpDecode_flags ..

theorem syncHalfsym_flags (a : Scalar) (s : State) : (syncHalfsym a s).flags = s.flags := by
  rw [syncHalfsym_eq]
  exact (afterSymbol_host a s).flags

theorem syncAdj_flags (bb cphi : Scalar) (s : State) : (syncAdj bb cphi s).flags = s.flags := by rw [syncAdj_eq]

theorem pllSnap_flags (s : State) : (pllSnap s).flags = s.flags := by rw [pllSnap_eq]

/-! ## Operations that may record a cause -/

/-- The gate of a port event, and each event behind it, records at most a refusal (R285, R305). -/
theorem portEvent_records {z : Cplx} {b : Bool} {f : State → State}
    (hf : f ∈ [demodStep z, bsyncShift b, id, raise .refused]) (s : State) :
    Records .syncMiss s (portEvent f s) ∨ Records .refused s (portEvent f s) := by
  rcases portEvent_cases f s with ⟨-, e⟩ | ⟨-, -, e⟩ | ⟨-, e⟩ <;> rw [e]
  · exact .inr rfl
  · exact .inl rfl
  · simp only [List.mem_cons, List.not_mem_nil, or_false] at hf
    rcases hf with rfl | rfl | rfl | rfl
    · exact .inl (demodStep_host z s).flags
    · exact .inl (bsyncShift_leaves b s).flags
    · exact .inl rfl
    · exact .inr rfl

theorem exists_portEvent_records {z : Cplx} {b : Bool} {f : State → State}
    (hf : f ∈ [demodStep z, bsyncShift b, id, raise .refused]) (s : State) : ∃ c, Records c s (portEvent f s) :=
  (portEvent_records hf s).elim (⟨_, ·⟩) (⟨_, ·⟩)

/-- A window length other than 16 and 26 is recorded as a ConfigurationError (R217, R301). -/
theorem exec_syndrome_records {m mlen : Nat} {s t : State} (h : exec (.syndrome m mlen) s = .next t) :
    ∃ c, Records c s t := by
  by_cases hlen : mlen = 16 ∨ mlen = 26
  · cases (exec_syndrome_of_legal hlen m s).symm.trans h
    exact ⟨.syncMiss, rfl⟩
  · cases (exec_syndrome_of_illegal hlen m s).symm.trans h
    exact ⟨.configurationError, rfl⟩

/-- A program-type code above 31 is recorded as a ProtocolError (R259, R302). -/
theorem exec_ptyName_records {code : Option Nat} {s t : State} (h : exec (.ptyName code) s = .next t) :
    ∃ c, Records c s t := by
  cases code with
  | none =>
    cases h
    exact ⟨.syncMiss, rfl⟩
  | some k =>
    rcases Nat.lt_or_ge 31 k with hk | hk
    · cases (exec_ptyName_of_gt hk s).symm.trans h
      exact ⟨.protocolError, rfl⟩
    · cases (exec_ptyName_of_le hk s).symm.trans h
      exact ⟨.syncMiss, rfl⟩

theorem exec_grpDecode_flags {pos : Nat} {pA pB pC pD : Bool} {s t : State}
    (h : exec (.grpDecode pos pA pB pC pD) s = .next t) : t.flags = s.flags := by
  cases hread : readGroup s.bsync pos pA pB pC pD with
  | some g =>
    cases (exec_grpDecode_of_readGroup hread).symm.trans h
    exact grpDecode_flags ..
  | none => cases (exec_grpDecode_of_readGroup_eq_none hread).symm.trans h

theorem exec_bsyncScan_flags {s t : State} (h : exec .bsyncScan s = .next t) : t.flags = s.flags := by
  rcases Nat.lt_or_ge s.bsync.nbits 104 with hfew | hfull
  · cases (exec_bsyncScan_of_lt hfew).symm.trans h
  · cases (exec_bsyncScan_of_le hfull).symm.trans h
    exact bsyncScan_flags s

/-! ## Every instruction and every step -/

/-- An instruction other than RESET records at most one cause. The cases are taken by what the instruction may record:
those that can raise or refuse, the gated port events, the stages, and the rows that only write elsewhere. -/
theorem exec_records {i : Instr} {s t : State} (hi : i ≠ .reset) (h : exec i s = .next t) : ∃ c, Records c s t := by
  cases i
  case reset => contradiction
  case syndrome => exact exec_syndrome_records h
  case ptyName => exact exec_ptyName_records h
  case grpDecode => exact ⟨.syncMiss, exec_grpDecode_flags h⟩
  case bsyncScan => exact ⟨.syncMiss, exec_bsyncScan_flags h⟩
  all_goals obtain rfl := Host.Outcome.next.inj h
  case sample z => exact exists_portEvent_records (z := z) (b := false) (by simp) s
  case bit b => exact exists_portEvent_records (z := default) (b := b) (by simp) s
  case idle => exact exists_portEvent_records (z := default) (b := false) (by simp) s
  case strobeReserved => exact exists_portEvent_records (z := default) (b := false) (by simp) s
  all_goals refine ⟨.syncMiss, ?_⟩
  case demodStep z => exact (demodStep_host z s).flags
  case pllStep y => exact (pllStep_host y s).flags
  case pllSnap => exact pllSnap_flags s
  case pllTickcnt iBb => exact (pllTickcnt_host iBb s).flags
  case syncTick bb => exact (syncTick_host bb s).flags
  case syncAdj bb cphi => exact syncAdj_flags bb cphi s
  case syncDump lo => exact (syncDump_host lo s).flags
  case syncHalfsym a => exact syncHalfsym_flags a s
  case diffStep sym => exact (diffStep_host sym s).flags
  case bsyncShift b => exact (bsyncShift_leaves b s).flags
  case grpDecB w => exact grpDecB_flags w s
  case synA | synB | synC | synD | synCp => rfl
  case demodFilt | demodMix | demodDecim | demodDisc => rfl
  case pllNco | pllMix | pllErr | pllFeedback => rfl
  case syncClock | syncInteg | syncFramesel => rfl
  case crc16 | classify | grpDecA | grpDecCd | piHex => rfl
  all_goals exact groupWith_flags ..

/-- Settles O56: the one cause an instruction may record sets its flag and clears none. -/
theorem onlyResetClearsAFlag : Obligations.OnlyResetClearsAFlag := by
  unfold Obligations.OnlyResetClearsAFlag
  intro i s t hi h
  obtain ⟨c, hc⟩ := exec_records hi h
  exact hc.keeps

/-- A RESET sets neither error: it clears every flag, or it marks a refusal (R287, R340). -/
theorem resetEvent_error_of_error (s : State) :
    ((resetEvent s).flags.fltConfig = true → s.flags.fltConfig = true) ∧
      ((resetEvent s).flags.fltProto = true → s.flags.fltProto = true) := by
  unfold resetEvent
  split
  · exact ⟨nofun, nofun⟩
  · exact ⟨id, id⟩

/-- Settles O57: no input decodes to an operation that records an error; a port event records at most a refusal. -/
theorem noStepRaisesAnError : Obligations.NoStepRaisesAnError := by
  unfold Obligations.NoStepRaisesAnError
  intro s t h
  rw [← accept_flags s]
  rcases step_cases h with rfl | ⟨z, b, f, hf, rfl⟩ | ⟨l, rfl⟩ | ⟨v, arm, g, rfl⟩
  · exact resetEvent_error_of_error s.accept
  · rcases portEvent_records hf s.accept with hr | hr
    · exact hr.error_of_error nofun nofun
    · exact hr.error_of_error nofun nofun
  · exact ⟨id, id⟩
  · rw [groupWith_flags]
    exact ⟨id, id⟩

end Sys2Proof.Machine
